-- ==== Sys2Proof/Word.lean ====
section
/-! DEFINITION. The widths of the block's quantities and its enumerated types: what an operation's
operands, a register or a port can hold. -/

namespace Sys2Proof

/-- `STEP_W` = 32 bits: step counts (00 R7). -/
abbrev Steps := BitVec 32

/-- `PERIOD_W` = 16 bits: pulse periods (00 R7). -/
abbrev Period := BitVec 16

/-- `CAL_W` = 16 bits: values of the store (00 R7, 20 R82). -/
abbrev Cal := BitVec 16

/-- The command word `CW[39:0]` (30 R110). -/
abbrev CommandWord := BitVec 40

/-- The event vector `EV[3:0]` (30 R120). -/
abbrev EventVector := BitVec 4

/-- MotionCommand: exactly five codes (10 R25). A command register never holds a reserved code
(30 R125), so the type is closed. -/
inductive MotionCommand where
  | none
  | stop
  | arrived
  | driveUp
  | driveDown
  deriving DecidableEq, Repr

/-- MotionState: the seven values of 10 R21, and the unassigned code 7 that a 3-bit register could
hold, so that the rule for it (41 R180) is part of the model (log 10). -/
inductive MotionState where
  | idle
  | rampStart
  | rampUp
  | rampStable
  | arrived
  | fault
  | faultInvalidDirection
  /-- The reserved code 7 (30 R114), none of the seven values. -/
  | reserved7
  deriving DecidableEq, Repr

/-- AppState: the seven values of 10 R47, and the reserved code 7 (30 R115, log 10). -/
inductive AppState where
  | init
  | idle
  | drivingUp
  | drivingDown
  | setupInit
  | setupFloor21
  | setupFloor10
  /-- The reserved code 7 (30 R115): APP.TICK runs no handler. -/
  | reserved7
  deriving DecidableEq, Repr

/-- Floor: the three floors of 10 R49, and the reserved code 3 (30 R116, log 10). -/
inductive Floor where
  | floor0
  | floor1
  | floor2
  /-- The reserved code 3 (30 R116): the floor table is a no-op. -/
  | reserved3
  deriving DecidableEq, Repr

/-- What the 3-bit `cmd` field of ENG.REQUEST holds: one of the five commands, or one of the
reserved codes 5, 6, 7 (30 R113, R125 b). -/
inductive CommandField where
  | command (c : MotionCommand)
  | reserved (code : BitVec 3)
  deriving DecidableEq, Repr

/-- A word of one of the two ports: an event vector (30 R120) or a command word (30 R110). -/
inductive PortWord where
  | events (ev : EventVector)
  | command (cw : CommandWord)
  deriving DecidableEq, Repr

end Sys2Proof
end

