-- ==== Sys2Proof/Config.lean ====
section
/-! DEFINITION. What an implementation fixes: the named parameters of 00 R7 with their constraints,
and the free value of the read-data output. -/

namespace Sys2Proof

/-- A calibration value of the store: its key, default and legal range (00 R7, 20 R85). A range that
breaks `MIN ≤ DEF ≤ MAX` cannot be built (93 U18). -/
structure CalibrationValue where
  key : Nat
  dflt : Cal
  lo : Cal
  hi : Cal
  lo_le_dflt : lo ≤ dflt := by decide
  dflt_le_hi : dflt ≤ hi := by decide
  deriving DecidableEq, Repr

/-- The parameters of 00 R7. The fields' defaults are those of the example configuration EX1; they
show that the type has a value and are no values of the machine (log 1). -/
structure Config where
  /-- `RAMP_START_DEFAULT`. -/
  rampStartDefault : Period := 1000
  /-- `RAMP_END_DEFAULT`. -/
  rampEndDefault : Period := 400
  /-- `STEP_DECREMENT`. -/
  stepDecrement : Period := 200
  /-- `MS_W`, the number of microstep-select lines. -/
  msW : Nat := 3
  /-- `MICROSTEP_DEFAULT`, the level of each line, line 0 first (log 14). -/
  microstepDefault : List Bool := [false, false, false]
  /-- `HOMING_STEPS`. -/
  homingSteps : Steps := 4294967295
  /-- `JOG_STEPS`. -/
  jogSteps : Cal := 100
  /-- `DOWN_LIMIT_ABORT`. -/
  downLimitAbort : Bool := false
  /-- `KEY_W`. -/
  keyW : Nat := 16
  /-- `K_LONGPRESS`, `DEF_LONGPRESS`, `MIN_LONGPRESS`, `MAX_LONGPRESS`. -/
  longPress : CalibrationValue := { key := 1, dflt := 1000, lo := 100, hi := 10000 }
  /-- `K_POWEROFF` and its default and range. -/
  powerOff : CalibrationValue := { key := 2, dflt := 600, lo := 10, hi := 65535 }
  /-- `K_LEVEL01` and its default and range. -/
  level01 : CalibrationValue := { key := 3, dflt := 1200, lo := 1, hi := 60000 }
  /-- `K_LEVEL12` and its default and range. -/
  level12 : CalibrationValue := { key := 4, dflt := 1500, lo := 1, hi := 60000 }
  /-- `K_FLOOR2TO` and its default and range. -/
  floor2To : CalibrationValue := { key := 5, dflt := 30, lo := 1, hi := 3600 }
  rampEnd_pos : 1 ≤ rampEndDefault := by decide
  rampEnd_le_start : rampEndDefault ≤ rampStartDefault := by decide
  stepDecrement_pos : 1 ≤ stepDecrement := by decide
  msW_pos : 1 ≤ msW := by decide
  microstep_length : microstepDefault.length = msW := by decide
  homingSteps_pos : 1 ≤ homingSteps := by decide
  jogSteps_pos : 1 ≤ jogSteps := by decide
  keyW_ge : 3 ≤ keyW := by decide
  keys_distinct :
    [longPress.key, powerOff.key, level01.key, level12.key, floor2To.key].Nodup := by decide
  keys_in_range : ∀ k ∈ [longPress.key, powerOff.key, level01.key, level12.key, floor2To.key],
    k < 2 ^ keyW := by decide
  deriving Inhabited

/-- The configuration of the machine: some legal assignment of the parameters, no more is known of
it (00 R7, 92 D31, log 1). -/
opaque Config.params : Config

/-- The value of `rdata` while no ENG.GETSTATE drives it: a fresh free value for each number
(10 R64, 93 U2, log 7). -/
opaque Config.freeRdata : Nat → BitVec 3

end Sys2Proof
end

