-- ==== Sys2Proof/Syntax.lean ====
section
/-! DEFINITION. The operations of the command port and the events of the event port, one
constructor per row of spec/opcode_table.json. -/

namespace Sys2Proof

/-- One operation or event. A field that an operation ignores (30 R111, R112) is no argument. -/
inductive Instr where
  /-- ENG.INIT (40 R140). -/
  | engInit
  /-- ENG.SHUTDOWN (40 R142). -/
  | engShutdown
  /-- ENG.REQUEST cmd, steps (40 R145). -/
  | engRequest (cmd : CommandField) (steps : Steps)
  /-- ENG.FASTSTOP (40 R148). -/
  | engFastStop
  /-- ENG.TICK (41 R170). -/
  | engTick
  /-- ENG.GETSTATE (40 R150). -/
  | engGetState
  /-- ENG.SETRAMPSTART period (40 R152). -/
  | engSetRampStart (period : Period)
  /-- ENG.SETRAMPEND period (40 R153). -/
  | engSetRampEnd (period : Period)
  /-- APP.INIT (43 R215). -/
  | appInit
  /-- APP.TICK (43 R216). -/
  | appTick
  /-- PULSE (42 R200). -/
  | pulse
  /-- BTN.POST.SHORT (45 R270). -/
  | btnPostShort
  /-- BTN.POST.LONG (45 R270). -/
  | btnPostLong
  /-- BTN.POST.LONGREP (45 R270). -/
  | btnPostLongRep
  deriving DecidableEq, Repr

end Sys2Proof
end

