-- ==== Sys2Proof/WellFormed.lean ====
section
/-! DEFINITION. Which instruction terms a port word can stand for. -/

namespace Sys2Proof

/-- A reserved command field holds one of the codes no command has: 5, 6 or 7 (30 R113). -/
def CommandField.wellFormed : CommandField → Bool
  | .command _ => true
  | .reserved code => 5 ≤ code.toNat

/-- The one check an operation's operands need; step counts and periods take every value of their
width (30 R118, 40 R154 a). -/
def Instr.wellFormed : Instr → Bool
  | .engRequest cmd _ => cmd.wellFormed
  | .engInit => true
  | .engShutdown => true
  | .engFastStop => true
  | .engTick => true
  | .engGetState => true
  | .engSetRampStart _ => true
  | .engSetRampEnd _ => true
  | .appInit => true
  | .appTick => true
  | .pulse => true
  | .btnPostShort => true
  | .btnPostLong => true
  | .btnPostLongRep => true

end Sys2Proof
end

