-- ==== Sys2Proof/Decode.lean ====
section
/-! DEFINITION. The decoder of command words and event vectors, total and rejecting by name, and
the encoder, both from the tables of 30_encoding.md. -/

namespace Sys2Proof

/-- Why a port word stands for no operation. Each is a defined no-op of the block (30 R125), no
fault and no refusal. -/
inductive Reserved where
  /-- `op` is 0x0 or 0xB to 0xF (30 R125 a). -/
  | opcode
  /-- `rsv` is 1, whatever `op` is (30 R125 a). -/
  | rsvBit
  /-- The event vector is all zero (30 R125 c). -/
  | noEvent
  deriving DecidableEq, Repr

/-- The `op` field, bits 39:36 (30 R111). -/
def opField (cw : CommandWord) : BitVec 4 := cw.extractLsb' 36 4

/-- The `rsv` field, bit 35 (30 R111). -/
def rsvField (cw : CommandWord) : Bool := cw.getLsbD 35

/-- The `cmd` field, bits 34:32 (30 R111). -/
def cmdField (cw : CommandWord) : BitVec 3 := cw.extractLsb' 32 3

/-- The `val` field, bits 31:0 (30 R111). -/
def valField (cw : CommandWord) : BitVec 32 := cw.extractLsb' 0 32

/-- The period operand, bits 15:0 (30 R118). -/
def periodField (cw : CommandWord) : Period := cw.extractLsb' 0 16

/-- MotionCommand codes (30 R113). -/
def MotionCommand.code : MotionCommand → BitVec 3
  | .none => 0
  | .stop => 1
  | .arrived => 2
  | .driveUp => 3
  | .driveDown => 4

/-- The meaning of the 3-bit `cmd` field (30 R113, R125 b). -/
def CommandField.ofBits (b : BitVec 3) : CommandField :=
  match b.toNat with
  | 0 => .command .none
  | 1 => .command .stop
  | 2 => .command .arrived
  | 3 => .command .driveUp
  | 4 => .command .driveDown
  | _ => .reserved b

/-- The 3-bit `cmd` field that holds a command field. -/
def CommandField.bits : CommandField → BitVec 3
  | .command c => c.code
  | .reserved code => code

/-- The operation of a command word: told apart by `op` and `rsv` alone (30 R111, R117). -/
def decodeCommand (cw : CommandWord) : Except Reserved Instr :=
  if rsvField cw then .error .rsvBit
  else
    match (opField cw).toNat with
    | 0x1 => .ok .engInit
    | 0x2 => .ok .engShutdown
    | 0x3 => .ok (.engRequest (CommandField.ofBits (cmdField cw)) (valField cw))
    | 0x4 => .ok .engFastStop
    | 0x5 => .ok .engTick
    | 0x6 => .ok .engGetState
    | 0x7 => .ok (.engSetRampStart (periodField cw))
    | 0x8 => .ok (.engSetRampEnd (periodField cw))
    | 0x9 => .ok .appInit
    | 0xA => .ok .appTick
    | _ => .error .opcode

/-- The first event of a vector and the vector of the others, in the order of the opcode table's
rows: PULSE, then the three button events (30 R120, log 6). -/
def decodeEvent (ev : EventVector) : Option (Instr × EventVector) :=
  if ev.getLsbD 3 then some (.pulse, ev &&& 0b0111)
  else if ev.getLsbD 0 then some (.btnPostShort, ev &&& 0b1110)
  else if ev.getLsbD 1 then some (.btnPostLong, ev &&& 0b1101)
  else if ev.getLsbD 2 then some (.btnPostLongRep, ev &&& 0b1011)
  else none

/-- The operation, or the first event, of a word of either port. -/
def decode : PortWord → Except Reserved Instr
  | .command cw => decodeCommand cw
  | .events ev =>
    match decodeEvent ev with
    | some (i, _) => .ok i
    | none => .error .noEvent

/-- A command word from its fields, `rsv` = 0 (30 R111). -/
def commandWord (op : BitVec 4) (cmd : BitVec 3) (val : BitVec 32) : CommandWord :=
  op ++ 0#1 ++ cmd ++ val

/-- The word of an instruction, with 0 in every field it does not use (30 R111, R117, R120). -/
def encode : Instr → PortWord
  | .engInit => .command (commandWord 0x1 0 0)
  | .engShutdown => .command (commandWord 0x2 0 0)
  | .engRequest cmd steps => .command (commandWord 0x3 cmd.bits steps)
  | .engFastStop => .command (commandWord 0x4 0 0)
  | .engTick => .command (commandWord 0x5 0 0)
  | .engGetState => .command (commandWord 0x6 0 0)
  | .engSetRampStart period => .command (commandWord 0x7 0 (period.setWidth 32))
  | .engSetRampEnd period => .command (commandWord 0x8 0 (period.setWidth 32))
  | .appInit => .command (commandWord 0x9 0 0)
  | .appTick => .command (commandWord 0xA 0 0)
  | .pulse => .events 0b1000
  | .btnPostShort => .events 0b0001
  | .btnPostLong => .events 0b0010
  | .btnPostLongRep => .events 0b0100

/-- A row of spec/opcode_table.json as it matches a port word: the bits of the mask equal those of
`bits`. Command rows match the command word, event rows the event vector (30 R120). -/
inductive Row where
  | command (mask bits : CommandWord)
  | events (mask bits : EventVector)
  deriving DecidableEq, Repr

/-- The opcode table's row of an instruction (30 R117, R120). -/
def Instr.row : Instr → Row
  | .engInit => .command 0xF800000000 0x1000000000
  | .engShutdown => .command 0xF800000000 0x2000000000
  | .engRequest _ _ => .command 0xF800000000 0x3000000000
  | .engFastStop => .command 0xF800000000 0x4000000000
  | .engTick => .command 0xF800000000 0x5000000000
  | .engGetState => .command 0xF800000000 0x6000000000
  | .engSetRampStart _ => .command 0xF800000000 0x7000000000
  | .engSetRampEnd _ => .command 0xF800000000 0x8000000000
  | .appInit => .command 0xF800000000 0x9000000000
  | .appTick => .command 0xF800000000 0xA000000000
  | .pulse => .events 0b1000 0b1000
  | .btnPostShort => .events 0b0001 0b0001
  | .btnPostLong => .events 0b0010 0b0010
  | .btnPostLongRep => .events 0b0100 0b0100

/-- A port word matches a row: it is a word of that row's port and has the row's bits. -/
def Row.matchesWord : Row → PortWord → Bool
  | .command mask bits, .command cw => cw &&& mask == bits
  | .events mask bits, .events ev => ev &&& mask == bits
  | .command _ _, .events _ => false
  | .events _ _, .command _ => false

/-- The port word that the opcode table's numbering names: a word of 40 bits is a command word, a
shorter one an event vector; bits above the port's width name no line of it (log 16). -/
def portWordOfTable (nbits w : Nat) : Option PortWord :=
  if nbits < 40 then
    if w < 2 ^ 4 then some (.events (BitVec.ofNat 4 w)) else none
  else
    if w < 2 ^ 40 then some (.command (BitVec.ofNat 40 w)) else none

/-- What this decoder reads from a word numbered as spec/opcode_table.json numbers it. -/
def decodeTableWord (nbits w : Nat) : Option Instr :=
  match portWordOfTable nbits w with
  | some p => (decode p).toOption
  | none => none

end Sys2Proof
end

