-- ==== Sys2Proof/Machine/State.lean ====
section
/-! DEFINITION. The state of the machine as plain data, the state after power-on, and the reasons a
step can stop. -/

namespace Sys2Proof.Machine

/-- The store: (key, value) pairs, keys strictly rising; a key that is not listed is absent
(20 R82, log 3). -/
abbrev Memory := List (Nat × Cal)

/-- The engine's registers (10 R22 to R46). -/
structure Engine where
  state : MotionState
  nextState : MotionState
  activeCmd : MotionCommand
  activeSteps : Steps
  nextCmd : MotionCommand
  nextSteps : Steps
  count : Steps
  target : Steps
  cfgStart : Period
  cfgEnd : Period
  /-- The start (slow) period, numerically the largest of a ramp (10 R33). -/
  minPeriod : Period
  /-- The cruise (fast) period, numerically the smallest of a ramp (10 R34). -/
  maxPeriod : Period
  currentPeriod : Period
  stepDecrement : Period
  stableReq : Bool
  pulseEn : Bool
  drvEn : Bool
  drvSleep : Bool
  drvReset : Bool
  /-- 1 is up, 0 is down (30 R121). -/
  dir : Bool
  stepOut : Bool
  /-- The microstep-select lines, line 0 first (10 R45, log 14). -/
  msSel : List Bool
  engInit : Bool
  deriving DecidableEq, Repr

/-- The application's registers (10 R47 to R60). -/
structure App where
  appState : AppState
  appNextState : AppState
  current : Floor
  last : Floor
  initFirst : Bool
  awaitRelease : Bool
  setupSteps : Cal
  level01 : Cal
  level12 : Cal
  longPressTime : Cal
  powerOffTimeout : Cal
  floor2Timeout : Cal
  ledMoving : Bool
  appInit : Bool
  deriving DecidableEq, Repr

/-- The button driver's event flags (10 R61). -/
structure Buttons where
  btnShort : Bool
  btnLong : Bool
  btnLongRep : Bool
  deriving DecidableEq, Repr

/-- The logical levels of the digital inputs, true when asserted (10 R62). -/
structure Pins where
  topLimit : Bool
  bottomLimit : Bool
  modeSel : Bool
  deriving DecidableEq, Repr

/-- What the agents present to the block at one instant: an event vector, a command word if the
host strobes one, and the levels of the inputs (30 R110, R120, 10 R62). -/
structure Presentation where
  ev : EventVector
  cw : Option CommandWord
  pins : Pins
  deriving DecidableEq, Repr

/-- One thing the world does to the block: a presentation at its ports, or a power-on reset
(70 R330, log 8). -/
inductive PortItem where
  | powerOn
  | present (p : Presentation)
  deriving DecidableEq, Repr

/-- The machine: the block's registers, the store and the inputs it samples, the read-data output,
and what the agents around it will present. -/
structure State where
  eng : Engine
  app : App
  btn : Buttons
  store : Memory
  pins : Pins
  /-- The read-data output (10 R64): no register (log 7). -/
  rdata : BitVec 3
  /-- What the agents will present, first first: the model's own field (log 4). -/
  port : List PortItem
  /-- The number of the next free value of `rdata`: the model's own field (log 7). -/
  freeCount : Nat
  deriving DecidableEq, Repr

/-- No step stops with a fault: the faults of the block are states of its engine (00 R11, 60 R285,
log 13), so the type has no constructor. -/
inductive Fault where
  deriving DecidableEq, Repr

/-- The operations to which the spec gives no meaning in the state they are presented in
(00 R9 `refuse`). Each is safe: the run ends there. -/
inductive Refusal where
  /-- Raised by `exec`'s arm of an instruction that has no meaning yet. Safe. -/
  | notModelled (mnemonic : String)
  /-- Raised by every engine operation but ENG.INIT, and by APP.TICK, while `engInit` = 0
  (70 R332). Safe. -/
  | engineNotInitialised
  /-- Raised by APP.TICK while `engInit` = 1 and `appInit` = 0 (70 R332, log 12). Safe. -/
  | applicationNotInitialised
  deriving DecidableEq, Repr

/-- What an instruction or a step answers. -/
abbrev Result := Host.Outcome State Fault Refusal

/-- The engine after power-on: the values of 10 R66 where it gives one, 0 or code 0 for a register
it leaves unspecified (log 2). -/
def Engine.reset : Engine where
  state := .idle
  nextState := .idle
  activeCmd := .none
  activeSteps := 0
  nextCmd := .none
  nextSteps := 0
  count := 0
  target := 0
  cfgStart := 0
  cfgEnd := 0
  minPeriod := 0
  maxPeriod := 0
  currentPeriod := 0
  stepDecrement := 0
  stableReq := false
  pulseEn := false
  drvEn := false
  drvSleep := true
  drvReset := false
  dir := false
  stepOut := false
  msSel := List.replicate Config.params.msW false
  engInit := false

/-- The application after power-on (10 R66; unspecified registers: log 2). -/
def App.reset : App where
  appState := .init
  appNextState := .init
  current := .floor0
  last := .floor0
  initFirst := false
  awaitRelease := false
  setupSteps := 0
  level01 := 0
  level12 := 0
  longPressTime := 0
  powerOffTimeout := 0
  floor2Timeout := 0
  ledMoving := false
  appInit := false

/-- The button flags after power-on (10 R61). -/
def Buttons.reset : Buttons where
  btnShort := false
  btnLong := false
  btnLongRep := false

/-- The machine right after power-on, with a store that holds no key (log 3), inputs deasserted
(log 5) and nothing presented (log 4). -/
def State.reset : State where
  eng := Engine.reset
  app := App.reset
  btn := Buttons.reset
  store := []
  pins := { topLimit := false, bottomLimit := false, modeSel := false }
  rdata := 0
  port := []
  freeCount := 0

/-- The state with another engine record. -/
def State.withEng (s : State) (e : Engine) : State := { s with eng := e }

/-- The state with another application record. -/
def State.withApp (s : State) (a : App) : State := { s with app := a }

/-- The state with other button flags. -/
def State.withBtn (s : State) (b : Buttons) : State := { s with btn := b }

/-- The state with another store. -/
def State.withStore (s : State) (m : Memory) : State := { s with store := m }

/-- The state with other input levels. -/
def State.withPins (s : State) (p : Pins) : State := { s with pins := p }

/-- The state with another value on the read-data output. -/
def State.withRdata (s : State) (r : BitVec 3) : State := { s with rdata := r }

/-- The state with other things to be presented. -/
def State.withPort (s : State) (q : List PortItem) : State := { s with port := q }

/-- The state with another number for the next free value. -/
def State.withFreeCount (s : State) (n : Nat) : State := { s with freeCount := n }

end Sys2Proof.Machine
end

