-- ==== Sys2Proof/Machine/Operands.lean ====
section
/-! DEFINITION. Operand forms: the commands that carry a step count, the widening of a calibrated
count, the codes a register shows on a port, and the block's outputs. -/

namespace Sys2Proof

/-- The commands that carry a step count (10 R25). -/
def MotionCommand.isDrive : MotionCommand → Bool
  | .driveUp => true
  | .driveDown => true
  | .none => false
  | .stop => false
  | .arrived => false

/-- MotionState codes (30 R114). -/
def MotionState.code : MotionState → BitVec 3
  | .idle => 0
  | .rampStart => 1
  | .rampUp => 2
  | .rampStable => 3
  | .arrived => 4
  | .fault => 5
  | .faultInvalidDirection => 6
  | .reserved7 => 7

/-- AppState codes (30 R115). -/
def AppState.code : AppState → BitVec 3
  | .init => 0
  | .idle => 1
  | .drivingUp => 2
  | .drivingDown => 3
  | .setupInit => 4
  | .setupFloor21 => 5
  | .setupFloor10 => 6
  | .reserved7 => 7

/-- Floor codes (30 R116). -/
def Floor.code : Floor → BitVec 2
  | .floor0 => 0
  | .floor1 => 1
  | .floor2 => 2
  | .reserved3 => 3

namespace Machine

/-- The step field staged with a command: 0 unless the command carries a count (10 R25, 40 R145). -/
def stagedSteps (c : MotionCommand) (n : Steps) : Steps := if c.isDrive then n else 0

/-- A 16-bit calibrated count as the 32-bit step operand of a nested request (43 R218). -/
def stepOperand (v : Cal) : Steps := v.setWidth 32

/-- The output signals of the block (10 R63). -/
structure Outputs where
  step : Bool
  dir : Bool
  drvEn : Bool
  drvReset : Bool
  drvSleep : Bool
  ms : List Bool
  tmrEn : Bool
  tmrReload : Period
  led : Bool
  btnLongTime : Cal
  deriving DecidableEq, Repr

/-- Each output is a copy of a register (10 R63). -/
def State.outputs (s : State) : Outputs where
  step := s.eng.stepOut
  dir := s.eng.dir
  drvEn := s.eng.drvEn
  drvReset := s.eng.drvReset
  drvSleep := s.eng.drvSleep
  ms := s.eng.msSel
  tmrEn := s.eng.pulseEn
  tmrReload := s.eng.currentPeriod
  led := s.app.ledMoving
  btnLongTime := s.app.longPressTime

end Machine

end Sys2Proof
end

