-- ==== Sys2Proof/Machine/Flags.lean ====
section
/-! DEFINITION. The computations on 1-bit registers that several rules share. -/

namespace Sys2Proof.Machine

/-- Disabling the pulse hardware: what every tick in or entering Idle, Arrived or a fault state does
(41 R173, R176, R178). -/
def Engine.disable (e : Engine) : Engine := { e with pulseEn := false, drvEn := false }

/-- The gate of the pulse event (42 R200). -/
def Engine.pulseGate (e : Engine) : Bool := e.engInit && e.pulseEn && e.count < e.target

/-- `BtnTake(btnShort)`: the flag's value, and the flags with it cleared (45 R271). -/
def Buttons.takeShort (b : Buttons) : Bool × Buttons := (b.btnShort, { b with btnShort := false })

/-- `BtnTake(btnLong)`: the flag's value, and the flags with it cleared (45 R271). -/
def Buttons.takeLong (b : Buttons) : Bool × Buttons := (b.btnLong, { b with btnLong := false })

/-- Clearing the repeat flag without reading it (43 R222). -/
def Buttons.clearLongRep (b : Buttons) : Buttons := { b with btnLongRep := false }

/-- Discarding all pending button events (44 R256). -/
def Buttons.discard (b : Buttons) : Buttons :=
  { b with btnShort := false, btnLong := false, btnLongRep := false }

end Sys2Proof.Machine
end

