-- ==== Sys2Proof/Machine/Ops.lean ====
section
/-! DEFINITION. The named operations over the store and the registers: reading and writing the
store, entering a fault state, committing a state, initialisation checks, the read-data output, and
the power-on reset. -/

namespace Sys2Proof.Machine

/-- The store's canonical form: keys strictly rising (log 3). -/
abbrev Memory.wf (m : Memory) : Prop := (m.map Prod.fst).Pairwise (· < ·)

/-- `NV[k]`: none when the key is absent (20 R82). -/
def Memory.read : Memory → Nat → Option Cal
  | [], _ => none
  | (k', v) :: m, k => if k' = k then some v else Memory.read m k

/-- `NV[k] <- v`, keeping the keys in order (20 R84). -/
def Memory.write : Memory → Nat → Cal → Memory
  | [], k, v => [(k, v)]
  | (k', v') :: m, k, v =>
    if k < k' then (k, v) :: (k', v') :: m
    else if k = k' then (k, v) :: m
    else (k', v') :: Memory.write m k v

/-- `NVRead(k, d, lo, hi)` (20 R83). -/
def nvRead (m : Memory) (k : Nat) (d lo hi : Cal) : Cal :=
  match m.read k with
  | none => d
  | some v => if v < lo ∨ hi < v then d else v

/-- `NVWrite(k, v)` (20 R84): no range check, and nothing tells a skipped equal write apart. -/
def nvWrite (m : Memory) (k : Nat) (v : Cal) : Memory := m.write k v

/-- Reading a calibration value with its own default and range (20 R85). -/
def loadCal (m : Memory) (c : CalibrationValue) : Cal := nvRead m c.key c.dflt c.lo c.hi

/-- `raise F`: entering a fault state of the engine. Nothing is saved and nothing else changes; the
tick's commit makes `state = F` (60 R289). -/
def Engine.raise (e : Engine) (f : MotionState) : Engine := { e.disable with nextState := f }

/-- The commit of the engine's tick (41 R181). -/
def Engine.commit (e : Engine) : Engine := { e with state := e.nextState }

/-- The commit of the application's tick (43 R217). -/
def App.commit (a : App) : App := { a with appState := a.appNextState }

/-- An engine operation other than ENG.INIT: refused before initialisation (70 R332). -/
def engineOp (f : Engine → Engine) (s : State) : Result :=
  if s.eng.engInit then .next (s.withEng (f s.eng)) else .refused .engineNotInitialised

/-- `rdata` while nothing drives it: a fresh free value (10 R64, 93 U2, log 7). -/
def State.releaseRdata (s : State) : State :=
  { s with rdata := Config.freeRdata s.freeCount, freeCount := s.freeCount + 1 }

/-- `rdata` driven with the code of a motion state (30 R119). -/
def State.driveRdata (s : State) (m : MotionState) : State := { s with rdata := m.code }

/-- The power-on reset: every register of the block as after power-on, the store kept; the pins,
what will be presented and the read-data output are outside the block's registers (70 R330, 10 R66,
log 8). -/
def State.powerOnReset (s : State) : State :=
  { s with eng := Engine.reset, app := App.reset, btn := Buttons.reset }

end Sys2Proof.Machine
end

