-- ==== Sys2Proof/Machine/EngineOps.lean ====
section
/-! DEFINITION. The engine operations other than the tick (40_engine_ops.md). -/

namespace Sys2Proof.Machine

/-- ENG.INIT's registers (40 R140), for a configuration. Every register is written, so the engine
before does not matter (40 R141 c). -/
def Engine.initialised (c : Config) : Engine where
  state := .idle
  nextState := .idle
  activeCmd := .none
  activeSteps := 0
  nextCmd := .none
  nextSteps := 0
  count := 0
  target := 0
  cfgStart := c.rampStartDefault
  cfgEnd := c.rampEndDefault
  minPeriod := c.rampStartDefault
  maxPeriod := c.rampEndDefault
  currentPeriod := c.rampStartDefault
  stepDecrement := c.stepDecrement
  stableReq := false
  pulseEn := false
  drvEn := false
  drvSleep := true
  drvReset := false
  dir := false
  stepOut := false
  msSel := c.microstepDefault
  engInit := true

/-- ENG.SHUTDOWN's registers (40 R142). -/
def Engine.shutdown (e : Engine) : Engine :=
  { e with pulseEn := false, drvEn := false, drvSleep := true }

/-- The counters zeroed at staging time (40 R146). -/
def Engine.zeroCounters (e : Engine) : Engine := { e with count := 0, target := 0 }

/-- `request(c, n)` for one of the five commands (40 R145). -/
def Engine.request (e : Engine) (c : MotionCommand) (n : Steps) : Engine :=
  let e1 := { e with nextCmd := c, nextSteps := stagedSteps c n }
  if c = .stop then e1.zeroCounters else e1

/-- `requestFastStop()` (40 R148): the request of a stop, and the interrupt disabled (40 R149 f). -/
def Engine.fastStop (e : Engine) : Engine := { e.request .stop 0 with pulseEn := false }

/-- ENG.INIT (40 R140): accepted in every state (40 R141 b, d). -/
def execEngInit (s : State) : Result := .next (s.withEng (Engine.initialised Config.params))

/-- ENG.SHUTDOWN (40 R142). -/
def execEngShutdown (s : State) : Result := engineOp Engine.shutdown s

/-- ENG.REQUEST (40 R145). A reserved command code is a no-op, before initialisation too (30 R125 b,
70 R332, log 9). -/
def execEngRequest (cmd : CommandField) (steps : Steps) (s : State) : Result :=
  match cmd with
  | .command c => engineOp (fun e => e.request c steps) s
  | .reserved _ => .next s

/-- ENG.FASTSTOP (40 R148). -/
def execEngFastStop (s : State) : Result := engineOp Engine.fastStop s

/-- ENG.GETSTATE (40 R150): drives `rdata`, writes no register. -/
def execEngGetState (s : State) : Result :=
  if s.eng.engInit then .next (s.driveRdata s.eng.state) else .refused .engineNotInitialised

/-- ENG.SETRAMPSTART (40 R152). -/
def execEngSetRampStart (period : Period) (s : State) : Result :=
  engineOp (fun e => { e with cfgStart := period }) s

/-- ENG.SETRAMPEND (40 R153). -/
def execEngSetRampEnd (period : Period) (s : State) : Result :=
  engineOp (fun e => { e with cfgEnd := period }) s

end Sys2Proof.Machine
end

