-- ==== Sys2Proof/Machine/Setup.lean ====
section
/-! DEFINITION. The homing request and the handlers of the setup wizard (44_app_setup.md), for a
configuration. Nested engine operations are performed in full where the handler names them
(43 R218). -/

namespace Sys2Proof.Machine

/-- A nested ENG.REQUEST (43 R218). -/
def State.request (s : State) (c : MotionCommand) (n : Steps) : State :=
  s.withEng (s.eng.request c n)

/-- A nested ENG.FASTSTOP (43 R218). -/
def State.fastStop (s : State) : State := s.withEng s.eng.fastStop

/-- The one-shot upward request on the first run of Init or SetupInit (43 R220, 44 R250). -/
def homingRequest (c : Config) (s : State) : State :=
  if s.app.initFirst then
    (s.request .driveUp c.homingSteps).withApp { s.app with initFirst := false }
  else s

/-- SetupInit (44 R250). -/
def setupInitHandler (c : Config) (s : State) : State :=
  let s1 := homingRequest c s
  if s1.pins.topLimit then
    s1.fastStop.withApp { s1.app with setupSteps := 0, appNextState := .setupFloor21 }
  else s1

/-- The jog of a short press: a downward request and the accumulated count, modulo 2^16 (44 R252). -/
def jog (c : Config) (s : State) : State :=
  (s.request .driveDown (stepOperand c.jogSteps)).withApp
    { s.app with setupSteps := s.app.setupSteps + c.jogSteps }

/-- The long-press action of SetupFloor21: the store write, then the register reloaded through the
read (44 R253). -/
def commitFloor21 (c : Config) (s : State) : State :=
  let m := nvWrite s.store c.level12.key s.app.setupSteps
  (s.withStore m).withApp { s.app with level12 := loadCal m c.level12, awaitRelease := true }

/-- The long-press action of SetupFloor10 (44 R255). -/
def commitFloor10 (c : Config) (s : State) : State :=
  let m := nvWrite s.store c.level01.key s.app.setupSteps
  (s.withStore m).withApp { s.app with level01 := loadCal m c.level01, awaitRelease := true }

/-- The presses taken while no release is awaited: the jog first, then the commit (44 R252). -/
def takePresses (c : Config) (commit : State → State) (s : State) : State :=
  let short := s.btn.takeShort
  let long := short.2.takeLong
  let s1 := s.withBtn long.2
  let s2 := if short.1 then jog c s1 else s1
  if long.1 then commit s2 else s2

/-- The release test, and leaving the setup state (44 R256). -/
def releaseTest (s : State) : State :=
  if s.pins.modeSel then s
  else
    let a := { s.app with awaitRelease := false, setupSteps := 0 }
    let a1 :=
      if s.app.appState = .setupFloor21 then { a with appNextState := .setupFloor10 }
      else { a with appNextState := .init, initFirst := true }
    (s.withBtn s.btn.discard).withApp a1

/-- SetupFloor21 and SetupFloor10 but for the commit: the release test sees the value of
`awaitRelease` after the presses (44 R252, R254). -/
def setupFloorHandler (c : Config) (commit : State → State) (s : State) : State :=
  let s1 := if s.app.awaitRelease then s else takePresses c commit s
  if s1.app.awaitRelease then releaseTest s1 else s1

/-- SetupFloor21 (44 R252, R253). -/
def setupFloor21Handler (c : Config) (s : State) : State :=
  setupFloorHandler c (commitFloor21 c) s

/-- SetupFloor10 (44 R254, R255). -/
def setupFloor10Handler (c : Config) (s : State) : State :=
  setupFloorHandler c (commitFloor10 c) s

end Sys2Proof.Machine
end

