-- ==== Sys2Proof/Machine/AppOps.lean ====
section
/-! DEFINITION. APP.INIT and APP.TICK with the normal-mode handlers (43_app_ops.md), for a
configuration. -/

namespace Sys2Proof.Machine

/-- APP.INIT's registers (43 R215), from the store and the sampled mode input. Every register is
written. -/
def App.initialised (c : Config) (m : Memory) (modeSel : Bool) : App where
  appState := if modeSel then .setupInit else .init
  appNextState := if modeSel then .setupInit else .init
  current := .floor2
  last := .floor2
  initFirst := true
  awaitRelease := false
  setupSteps := 0
  level01 := loadCal m c.level01
  level12 := loadCal m c.level12
  longPressTime := loadCal m c.longPress
  powerOffTimeout := loadCal m c.powerOff
  floor2Timeout := loadCal m c.floor2To
  ledMoving := false
  appInit := true

/-- Init (43 R220): the first-entry request and the limit test are independent and in this order. -/
def initHandler (c : Config) (s : State) : State :=
  let s1 := homingRequest c s
  if s1.pins.topLimit then
    s1.fastStop.withApp
      { s1.app with current := .floor2, last := .floor2, appNextState := .idle }
  else s1

/-- What a row of the floor transition table does (43 R223). -/
structure FloorMove where
  next : AppState
  cmd : MotionCommand
  steps : Cal
  current : Floor
  last : Floor
  deriving DecidableEq, Repr

/-- The floor transition table: none where the press is a no-op (43 R223). -/
def floorMove (a : App) : Option FloorMove :=
  match a.current, a.last with
  | .floor2, _ => some ⟨.drivingDown, .driveDown, a.level12, .floor1, .floor2⟩
  | .floor1, .floor2 => some ⟨.drivingDown, .driveDown, a.level01, .floor0, .floor1⟩
  | .floor1, .floor0 => some ⟨.drivingUp, .driveUp, a.level12, .floor2, .floor1⟩
  | .floor0, _ => some ⟨.drivingUp, .driveUp, a.level01, .floor1, .floor0⟩
  | .floor1, .floor1 => none
  | .floor1, .reserved3 => none
  | .reserved3, _ => none

/-- Applying the table: the request, the floor registers, the indicator, the next state (43 R223). -/
def applyFloorTable (s : State) : State :=
  match floorMove s.app with
  | none => s
  | some m =>
    (s.request m.cmd (stepOperand m.steps)).withApp
      { s.app with
        appNextState := m.next, current := m.current, last := m.last, ledMoving := true }

/-- Idle (43 R222): both flags are taken, the short press is handled before the long one. -/
def idleHandler (s : State) : State :=
  let short := s.btn.takeShort
  let long := short.2.takeLong
  let s1 := s.withBtn long.2
  let s2 := if short.1 then applyFloorTable s1 else s1
  if long.1 then s2.withBtn s2.btn.clearLongRep else s2

/-- The indicator off and the way back to Idle (43 R225, R226). -/
def endDriving (s : State) : State :=
  s.withApp { s.app with ledMoving := false, appNextState := .idle }

/-- A driving handler: the Arrived test, then the limit test (43 R225, R226). The nested
ENG.GETSTATE reads the committed state (43 R218, log 11). -/
def drivingHandler (limit : Bool) (s : State) : State :=
  let s1 := if s.eng.state = .arrived then endDriving s else s
  if limit then endDriving s1.fastStop else s1

/-- DrivingUp (43 R225). -/
def drivingUpHandler (s : State) : State := drivingHandler s.pins.topLimit s

/-- DrivingDown (43 R226). -/
def drivingDownHandler (c : Config) (s : State) : State :=
  drivingHandler (c.downLimitAbort && s.pins.bottomLimit) s

/-- The handler that `appState` selects; the reserved code has none (43 R216). -/
def appHandler (c : Config) (s : State) : State :=
  match s.app.appState with
  | .init => initHandler c s
  | .idle => idleHandler s
  | .drivingUp => drivingUpHandler s
  | .drivingDown => drivingDownHandler c s
  | .setupInit => setupInitHandler c s
  | .setupFloor21 => setupFloor21Handler c s
  | .setupFloor10 => setupFloor10Handler c s
  | .reserved7 => s

/-- The handler and the commit (43 R216, R217). -/
def appTick (c : Config) (s : State) : State :=
  let s1 := appHandler c s
  s1.withApp s1.app.commit

/-- APP.INIT (43 R215): accepted in every state (70 R332). -/
def execAppInit (s : State) : Result :=
  .next (s.withApp (App.initialised Config.params s.store s.pins.modeSel))

/-- APP.TICK (43 R216): refused unless both machines are initialised (70 R332, log 12). -/
def execAppTick (s : State) : Result :=
  if s.eng.engInit then
    if s.app.appInit then .next (appTick Config.params s) else .refused .applicationNotInitialised
  else .refused .engineNotInitialised

end Sys2Proof.Machine
end

