-- ==== Sys2Proof/Machine/Buttons.lean ====
section
/-! DEFINITION. The button driver's events (45 R270): accepted from power-on on. -/

namespace Sys2Proof.Machine

/-- BTN.POST.SHORT (45 R270). -/
def execBtnPostShort (s : State) : Result := .next (s.withBtn { s.btn with btnShort := true })

/-- BTN.POST.LONG (45 R270). -/
def execBtnPostLong (s : State) : Result := .next (s.withBtn { s.btn with btnLong := true })

/-- BTN.POST.LONGREP (45 R270). -/
def execBtnPostLongRep (s : State) : Result := .next (s.withBtn { s.btn with btnLongRep := true })

end Sys2Proof.Machine
end

