-- ==== Sys2Proof/Machine/EngineTick.lean ====
section
/-! DEFINITION. ENG.TICK: pickup, the handler of the motion state, commit (41_engine_tick.md). -/

namespace Sys2Proof.Machine

/-- Phase 1: a staged command becomes active; a staged None moves nothing (41 R171). -/
def Engine.pickup (e : Engine) : Engine :=
  if e.nextCmd = .none then e
  else { e with activeCmd := e.nextCmd, activeSteps := e.nextSteps, nextCmd := .none, nextSteps := 0 }

/-- Idle and Arrived (41 R173). -/
def Engine.idleHandler (e : Engine) : Engine :=
  { e.disable with nextState := if e.activeCmd.isDrive then .rampStart else e.nextState }

/-- The clamp of the cruise period at the start period (41 R175, 40 R154 a). -/
def lesser (a b : Period) : Period := if a ≤ b then a else b

/-- RampStart with a drive command (41 R175): the right-hand sides are the values before. -/
def Engine.startRamp (e : Engine) : Engine :=
  { e with
    dir := e.activeCmd = .driveUp
    target := e.activeSteps
    count := 0
    activeCmd := .none
    activeSteps := 0
    minPeriod := e.cfgStart
    maxPeriod := lesser e.cfgEnd e.cfgStart
    currentPeriod := e.cfgStart
    stableReq := false
    drvEn := true
    drvSleep := false
    pulseEn := true
    nextState := .rampUp }

/-- RampStart: any other command is an invalid direction (41 R174, R175). -/
def Engine.rampStartHandler (e : Engine) : Engine :=
  if e.activeCmd.isDrive then e.startRamp else e.raise .faultInvalidDirection

/-- RampUp: Stop, then target reached, then the stable request (41 R176). -/
def Engine.rampUpHandler (e : Engine) : Engine :=
  if e.activeCmd = .stop then { e.disable with nextState := .idle }
  else if e.target ≤ e.count then { e.disable with nextState := .arrived }
  else if e.stableReq then { e with nextState := .rampStable, stableReq := false }
  else e

/-- RampStable (41 R177). -/
def Engine.rampStableHandler (e : Engine) : Engine :=
  if e.activeCmd = .stop then { e.disable with nextState := .idle }
  else if e.target ≤ e.count then { e.disable with nextState := .arrived }
  else e

/-- Phase 2: the handler that `state` selects (41 R172). -/
def Engine.handler (e : Engine) : Engine :=
  match e.state with
  | .idle => e.idleHandler
  | .arrived => e.idleHandler
  | .rampStart => e.rampStartHandler
  | .rampUp => e.rampUpHandler
  | .rampStable => e.rampStableHandler
  | .fault => e.disable
  | .faultInvalidDirection => e.disable
  | .reserved7 => e.raise .fault

/-- The three phases of the tick (41 R170). -/
def Engine.tick (e : Engine) : Engine := e.pickup.handler.commit

/-- ENG.TICK (41 R170). -/
def execEngTick (s : State) : Result := engineOp Engine.tick s

end Sys2Proof.Machine
end

