-- ==== Sys2Proof/Machine/Pulse.lean ====
section
/-! DEFINITION. PULSE: one firing of the pulse-timer interrupt (42_pulse_event.md). -/

namespace Sys2Proof.Machine

/-- The step part (42 R201). -/
def Engine.stepPart (e : Engine) : Engine := { e with stepOut := !e.stepOut, count := e.count + 1 }

/-- The period after one decrement, cut short at the cruise period (42 R203). -/
def Engine.nextPeriod (e : Engine) : Period :=
  if e.maxPeriod < e.currentPeriod then
    if e.stepDecrement < e.currentPeriod - e.maxPeriod then e.currentPeriod - e.stepDecrement
    else e.maxPeriod
  else e.currentPeriod

/-- The ramp part, only while in RampUp; the request tests the period after the update (42 R203). -/
def Engine.rampPart (e : Engine) : Engine :=
  if e.state = .rampUp then
    { e with
      currentPeriod := e.nextPeriod
      stableReq := if e.nextPeriod = e.maxPeriod then true else e.stableReq }
  else e

/-- The pulse event's effect on the engine (42 R200). -/
def Engine.pulse (e : Engine) : Engine := if e.pulseGate then e.stepPart.rampPart else e

/-- PULSE (42 R200): never refused; without effect while gated (70 R332). -/
def execPulse (s : State) : Result := .next (s.withEng s.eng.pulse)

end Sys2Proof.Machine
end

