-- ==== Sys2Proof/Machine/Dispatch.lean ====
section
/-! DEFINITION. The meaning of each instruction, one arm per row of the opcode table. -/

namespace Sys2Proof.Machine

def exec (i : Instr) (s : State) : Host.Outcome State Fault Refusal :=
  match i with
  | .engInit => Sys2Proof.Machine.execEngInit s
  | .engShutdown => Sys2Proof.Machine.execEngShutdown s
  | .engRequest cmd steps => Sys2Proof.Machine.execEngRequest cmd steps s
  | .engFastStop => Sys2Proof.Machine.execEngFastStop s
  | .engTick => Sys2Proof.Machine.execEngTick s
  | .engGetState => Sys2Proof.Machine.execEngGetState s
  | .engSetRampStart period => Sys2Proof.Machine.execEngSetRampStart period s
  | .engSetRampEnd period => Sys2Proof.Machine.execEngSetRampEnd period s
  | .appInit => Sys2Proof.Machine.execAppInit s
  | .appTick => Sys2Proof.Machine.execAppTick s
  | .pulse => Sys2Proof.Machine.execPulse s
  | .btnPostShort => Sys2Proof.Machine.execBtnPostShort s
  | .btnPostLong => Sys2Proof.Machine.execBtnPostLong s
  | .btnPostLongRep => Sys2Proof.Machine.execBtnPostLongRep s

end Sys2Proof.Machine
end

