-- ==== Sys2Proof/Machine/Fetch.lean ====
section
/-! DEFINITION. Taking the next thing the agents present: one event or one command at a time. -/

namespace Sys2Proof.Machine

/-- What a step has to run. -/
inductive Fetched where
  /-- Nothing is presented: an idle port (30 R125). -/
  | idle
  /-- A reserved encoding: a defined no-op (30 R125). -/
  | nothing (why : Reserved)
  /-- The power-on reset (70 R330). -/
  | powerOn
  /-- An operation or an event. -/
  | instr (i : Instr)
  deriving DecidableEq, Repr

/-- The first thing of a presentation, and the presentation left after it: events first, then the
command (30 R120). An empty vector with no command does nothing (30 R125 c). -/
def Presentation.take (p : Presentation) : Fetched × Option Presentation :=
  match decodeEvent p.ev with
  | some (i, ev') =>
    (.instr i, if ev' = 0 ∧ p.cw = none then none else some { p with ev := ev' })
  | none =>
    match p.cw with
    | none => (.nothing .noEvent, none)
    | some cw =>
      match decodeCommand cw with
      | .ok i => (.instr i, none)
      | .error why => (.nothing why, none)

/-- The port with what is left of its first presentation. -/
def putBack (left : Option Presentation) (rest : List PortItem) : List PortItem :=
  match left with
  | none => rest
  | some q => .present q :: rest

/-- The next thing to run, and the state with it taken from the port and the inputs at the levels
presented with it (10 R62). -/
def State.fetch (s : State) : Fetched × State :=
  match s.port with
  | [] => (.idle, s)
  | .powerOn :: rest => (.powerOn, s.withPort rest)
  | .present p :: rest => (p.take.1, (s.withPort (putBack p.take.2 rest)).withPins p.pins)

/-- The presentation of a word numbered as the opcode table numbers it, at the present input
levels; a word that fits neither port presents nothing (log 16). -/
def State.tablePresentation (s : State) (nbits w : Nat) : Presentation :=
  match portWordOfTable nbits w with
  | some (.command cw) => { ev := 0, cw := some cw, pins := s.pins }
  | some (.events ev) => { ev := ev, cw := none, pins := s.pins }
  | none => { ev := 0, cw := none, pins := s.pins }

end Sys2Proof.Machine
end

