-- ==== Sys2Proof/Machine/Step.lean ====
section
/-! DEFINITION. One step: one event, one operation, one power-on reset, or an idle port. -/

namespace Sys2Proof.Machine

/-- One atomic transition (20 R90): the read-data output is released (10 R64), the next thing is
taken from the port, and it runs. -/
def step (s : State) : Host.Outcome State Fault Refusal :=
  match s.releaseRdata.fetch with
  | (.instr i, t) => exec i t
  | (.powerOn, t) => .next t.powerOnReset
  | (.nothing _, t) => .next t
  | (.idle, t) => .next t

/-- The state in which a word, numbered as the opcode table numbers it, is what the agents present
next (log 4, log 16). -/
def State.withFetchWord (s : State) (nbits w : Nat) : State :=
  s.withPort (.present (s.tablePresentation nbits w) :: s.port)

end Sys2Proof.Machine
end

