-- ==== Sys2Proof/Safety.lean ====
section
/-! DEFINITION. What counts as a safe state, in the terms claims use: the invariants the spec gives
the engine, the application and the store; running a list of operations and events; and the
registers as the rules of the handlers spell them. -/

namespace Sys2Proof.Safety

open Sys2Proof.Machine

/-- The engine's invariants from ENG.INIT on. -/
structure EngineInv (e : Engine) : Prop where
  /-- Between operations the staged state is the committed one (10 R24). -/
  committed : e.nextState = e.state
  /-- The reserved code is never held (30 R125). -/
  notReserved : e.state ≠ .reserved7
  /-- The step counter (10 R30). -/
  count_le_target : e.count ≤ e.target
  /-- The ramp profile (10 R37). -/
  cruise_le_current : e.maxPeriod ≤ e.currentPeriod
  current_le_start : e.currentPeriod ≤ e.minPeriod
  /-- Nothing changes the decrement after ENG.INIT (10 R36). -/
  decrement : e.stepDecrement = Config.params.stepDecrement
  /-- Nothing changes the microstep lines after ENG.INIT (10 R45). -/
  microstep : e.msSel = Config.params.microstepDefault
  /-- The stable request is made at the cruise period (42 R203). -/
  request_at_cruise : e.stableReq = true → e.currentPeriod = e.maxPeriod
  /-- RampStable runs at the cruise period (42 R204). -/
  stable_at_cruise : e.state = .rampStable → e.currentPeriod = e.maxPeriod
  /-- The driver is enabled only in RampUp and RampStable (10 R40). -/
  driver_running : e.drvEn = true → e.state = .rampUp ∨ e.state = .rampStable
  /-- The pulse interrupt is enabled only with the driver (42 R205 e). -/
  pulse_driven : e.pulseEn = true → e.drvEn = true
  /-- An enabled driver is awake (10 R41). -/
  driver_awake : e.drvEn = true → e.drvSleep = false
  /-- Nothing holds the driver in reset (10 R42). -/
  not_in_reset : e.drvReset = false
  /-- Only drive commands carry a step count (10 R25). -/
  active_steps : e.activeCmd.isDrive = false → e.activeSteps = 0
  next_steps : e.nextCmd.isDrive = false → e.nextSteps = 0

/-- The engine before ENG.INIT: the safety outputs are inactive (10 R66). -/
structure EngineOff (e : Engine) : Prop where
  pulse : e.pulseEn = false
  driver : e.drvEn = false
  asleep : e.drvSleep = true
  not_in_reset : e.drvReset = false
  stepLow : e.stepOut = false

/-- The five floor pairs reachable from APP.INIT (10 R50). -/
def floorPairs : List (Floor × Floor) :=
  [(.floor2, .floor2), (.floor1, .floor2), (.floor0, .floor1), (.floor1, .floor0),
    (.floor2, .floor1)]

/-- The value lies in the legal range of its calibration value. -/
def InRange (c : CalibrationValue) (v : Cal) : Prop := c.lo ≤ v ∧ v ≤ c.hi

/-- The two jog states of the setup wizard (44 R252, R254). -/
def isSetupFloor (a : AppState) : Prop := a = .setupFloor21 ∨ a = .setupFloor10

/-- The two driving states (43 R225, R226). -/
def isDriving (a : AppState) : Prop := a = .drivingUp ∨ a = .drivingDown

/-- The application's invariants from APP.INIT on. -/
structure AppInv (a : App) : Prop where
  /-- Between operations the staged state is the committed one (10 R48). -/
  committed : a.appNextState = a.appState
  /-- The reserved code is never held (30 R125). -/
  notReserved : a.appState ≠ .reserved7
  /-- The floor position (10 R50). -/
  floors : (a.current, a.last) ∈ floorPairs
  /-- The first-entry flag is set only where a handler reads it (10 R51). -/
  first : a.initFirst = true → a.appState = .init ∨ a.appState = .setupInit
  /-- A release is awaited only in a jog state (10 R52). -/
  awaiting : a.awaitRelease = true → isSetupFloor a.appState
  /-- The accumulator is 0 outside the jog states (10 R53). -/
  accumulated : a.setupSteps ≠ 0 → isSetupFloor a.appState
  /-- The moving indicator is lit exactly while driving (10 R59). -/
  led : a.ledMoving = true ↔ isDriving a.appState
  /-- Every calibration register is in its legal range (20 R83). -/
  level01 : InRange Config.params.level01 a.level01
  level12 : InRange Config.params.level12 a.level12
  longPress : InRange Config.params.longPress a.longPressTime
  powerOff : InRange Config.params.powerOff a.powerOffTimeout
  floor2To : InRange Config.params.floor2To a.floor2Timeout

/-- The machine's invariant: it holds after power-on and every step keeps it. -/
structure Inv (s : State) : Prop where
  engineReady : s.eng.engInit = true → EngineInv s.eng
  engineOff : s.eng.engInit = false → EngineOff s.eng
  appReady : s.app.appInit = true → AppInv s.app
  appOff : s.app.appInit = false → s.app.ledMoving = false
  /-- The store keeps its canonical form (log 3). -/
  store : s.store.wf
  /-- Every key of the store has `KEY_W` bits (20 R82). -/
  keys : ∀ k ∈ s.store.map Prod.fst, k < 2 ^ Config.params.keyW

/-- Both machines are initialised: no operation is refused (70 R332). -/
def Ready (s : State) : Prop := s.eng.engInit = true ∧ s.app.appInit = true

/-- A list of operations and events in their total order (20 R90), up to the first that stops. -/
def run : List Instr → State → Result
  | [], s => .next s
  | i :: is, s =>
    match exec i s with
    | .next t => run is t
    | .fault f => .fault f
    | .refused r => .refused r

/-- The bits of a command word that an operation's format uses (30 R111, R112): format N none but
`op` and `rsv`, format R all, format P the period. -/
def usedBits : Instr → CommandWord
  | .engRequest _ _ => 0xFFFFFFFFFF
  | .engSetRampStart _ => 0xF80000FFFF
  | .engSetRampEnd _ => 0xF80000FFFF
  | .engInit => 0xF800000000
  | .engShutdown => 0xF800000000
  | .engFastStop => 0xF800000000
  | .engTick => 0xF800000000
  | .engGetState => 0xF800000000
  | .appInit => 0xF800000000
  | .appTick => 0xF800000000
  | .pulse => 0xF800000000
  | .btnPostShort => 0xF800000000
  | .btnPostLong => 0xF800000000
  | .btnPostLongRep => 0xF800000000

/-- The command that the handler of a tick sees: a staged command other than None replaces the
active one (41 R171). -/
def seenCmd (e : Engine) : MotionCommand := if e.nextCmd = .none then e.activeCmd else e.nextCmd

/-- The step field that the handler of a tick sees (41 R171). -/
def seenSteps (e : Engine) : Steps := if e.nextCmd = .none then e.activeSteps else e.nextSteps

/-- The operation is a tick whose RampStart handler starts a ramp (41 R175). -/
def startsRamp (i : Instr) (s : State) : Prop :=
  i = .engTick ∧ s.eng.state = .rampStart ∧
    (seenCmd s.eng = .driveUp ∨ seenCmd s.eng = .driveDown)

/-- The engine after the pickup of a tick (41 R171). -/
def pickedUp (e : Engine) : Engine :=
  { e with
    activeCmd := seenCmd e
    activeSteps := seenSteps e
    nextCmd := .none
    nextSteps := if e.nextCmd = .none then e.nextSteps else 0 }

/-- The engine with a drive command staged (40 R145). -/
def driveStaged (e : Engine) (c : MotionCommand) (n : Steps) : Engine :=
  { e with nextCmd := c, nextSteps := n }

/-- The engine after a fast stop (40 R148). -/
def fastStopped (e : Engine) : Engine :=
  { e with nextCmd := .stop, nextSteps := 0, count := 0, target := 0, pulseEn := false }

/-- The state in which what a step takes from the port runs: what is left is put back, the inputs
are at the levels presented, and `rdata` is released (10 R62, R64, log 4, log 7). -/
def afterTaking (s : State) (left : List PortItem) (pins : Pins) : State :=
  { s with
    port := left
    pins := pins
    rdata := Config.freeRdata s.freeCount
    freeCount := s.freeCount + 1 }

/-- The application's registers with their state committed (43 R217). -/
def committedApp (a : App) : App := { a with appState := a.appNextState }

/-- The application's registers with a new state, staged and committed (43 R217). -/
def movedTo (a : App) (next : AppState) : App := { a with appState := next, appNextState := next }

/-- The flags after Idle's two takes, the repeat flag cleared by a long press (43 R222). -/
def idleFlags (b : Buttons) : Buttons :=
  { btnShort := false, btnLong := false, btnLongRep := b.btnLongRep && !b.btnLong }

/-- What an Idle tick that takes a short press leaves, for one row of the floor table
(43 R222, R223). -/
def afterPress (s : State) (next : AppState) (c : MotionCommand) (level : Cal)
    (current last : Floor) : State :=
  { s with
    eng := driveStaged s.eng c (level.setWidth 32)
    app := movedTo { s.app with current := current, last := last, ledMoving := true } next
    btn := idleFlags s.btn }

/-- The accumulated count after the short press of a jog state is taken (44 R252). -/
def accumulatedSteps (s : State) : Cal :=
  if s.btn.btnShort then s.app.setupSteps + Config.params.jogSteps else s.app.setupSteps

/-- The engine after the short press of a jog state is taken (44 R252). -/
def joggedEngine (s : State) : Engine :=
  if s.btn.btnShort then driveStaged s.eng .driveDown (Config.params.jogSteps.setWidth 32)
  else s.eng

/-- The application's registers as a jog state is left (44 R256). -/
def leftSetup (a : App) (next : AppState) : App :=
  movedTo { a with awaitRelease := false, setupSteps := 0 } next

/-- No button event is pending. -/
def noFlags : Buttons := { btnShort := false, btnLong := false, btnLongRep := false }

end Sys2Proof.Safety
end

