-- ==== Sys2Proof/Certificates/Slice0/Obligations.lean ====
section
/-! DEFINITION. The statements for the provers. Each docstring names the rules it formalises. -/

open Sys2Proof Sys2Proof.Machine Sys2Proof.Safety

/-! ### Encoding, presentation, reset -/

/-- Words written out from the tables of 30 R111, R113, R117 and R120 (vectors E1 to E20, E22 and E23
of 95) decode to what they stand for: each of the ten operation codes, each of the five command
codes, each of the four events. -/
def Obligations.SampleWordsDecode : Prop :=
  (decode (.command 0x1000000000) = .ok .engInit ∧
    decode (.command 0x2000000000) = .ok .engShutdown ∧
    decode (.command 0x4000000000) = .ok .engFastStop ∧
    decode (.command 0x5000000000) = .ok .engTick ∧
    decode (.command 0x6000000000) = .ok .engGetState ∧
    decode (.command 0x70000004B0) = .ok (.engSetRampStart 1200) ∧
    decode (.command 0x70ABCD04B0) = .ok (.engSetRampStart 1200) ∧
    decode (.command 0x800000012C) = .ok (.engSetRampEnd 300) ∧
    decode (.command 0x9000000000) = .ok .appInit ∧
    decode (.command 0xA000000000) = .ok .appTick) ∧
  (decode (.command 0x3000000000) = .ok (.engRequest (.command .none) 0) ∧
    decode (.command 0x3100000000) = .ok (.engRequest (.command .stop) 0) ∧
    decode (.command 0x3200000000) = .ok (.engRequest (.command .arrived) 0) ∧
    decode (.command 0x3300000005) = .ok (.engRequest (.command .driveUp) 5) ∧
    decode (.command 0x3400000320) = .ok (.engRequest (.command .driveDown) 800) ∧
    decode (.command 0x33FFFFFFFF) = .ok (.engRequest (.command .driveUp) 4294967295) ∧
    decode (.command 0x3500000007) = .ok (.engRequest (.reserved 5) 7)) ∧
  (decode (.events 0b1000) = .ok .pulse ∧ decode (.events 0b0001) = .ok .btnPostShort ∧
    decode (.events 0b0010) = .ok .btnPostLong ∧ decode (.events 0b0100) = .ok .btnPostLongRep) ∧
  decode (.command 0x3B00000005) = .error .rsvBit ∧
  decode (.command 0x0000000000) = .error .opcode ∧
  decode (.command 0xB000000000) = .error .opcode ∧
  decode (.command 0xF000000000) = .error .opcode

/-- No bit of an operand is dropped: decoding the encoding of a well-formed instruction gives it
back, for every operand (30 R111, R113, R117, R118, R120). -/
def Obligations.DecodeEncodeRoundTrip : Prop :=
  ∀ i : Instr, i.wellFormed = true → decode (encode i) = .ok i

/-- A command word decodes to an instruction of a row exactly when it has the row's bits under the
row's mask: `op` and `rsv` alone tell operations apart (30 R111). -/
def Obligations.CommandToldApartByOpAndRsv : Prop :=
  ∀ (cw : CommandWord) (j : Instr),
    j.row.matchesWord (.command cw) = true ↔ ∃ i, decodeCommand cw = .ok i ∧ i.row = j.row

/-- Fields an operation's format does not use are ignored, any value (30 R111, R112). -/
def Obligations.UnusedFieldsIgnored : Prop :=
  ∀ (cw cw' : CommandWord) (i : Instr),
    decodeCommand cw = .ok i → cw &&& usedBits i = cw' &&& usedBits i → decodeCommand cw' = .ok i

/-- Reserved encodings are no-ops (30 R125 a, b, c): a reserved command word and an empty event
vector change no register, and ENG.REQUEST with a reserved code stages nothing. That a reserved code
is a no-op before ENG.INIT too is the model's reading (log 9). -/
def Obligations.ReservedEncodingsAreNoOps : Prop :=
  (∀ (s : State) (p : Presentation) (rest : List PortItem) (cw : CommandWord),
    s.port = .present p :: rest → p.ev = 0 → p.cw = some cw →
    (cw.getLsbD 35 = true ∨ (cw.toNat / 2 ^ 36 = 0 ∨ 11 ≤ cw.toNat / 2 ^ 36)) →
    step s = .next (afterTaking s rest p.pins)) ∧
  (∀ (s : State) (b : BitVec 3) (n : Steps), exec (.engRequest (.reserved b) n) s = .next s) ∧
  (∀ (s : State) (p : Presentation) (rest : List PortItem),
    s.port = .present p :: rest → p.ev = 0 → p.cw = none →
    step s = .next (afterTaking s rest p.pins))

/-- A step runs what is presented: the command of a presentation without events, the first event of
one with events (events before the command, 30 R120), and the instruction of an opcode-table word.
That one presentation's events run one a step, in this order, is the model's choice (log 4, log 6). -/
def Obligations.StepRunsDecodedInstruction : Prop :=
  (∀ (s : State) (p : Presentation) (rest : List PortItem) (cw : CommandWord) (i : Instr),
    s.port = .present p :: rest → p.ev = 0 → p.cw = some cw → decodeCommand cw = .ok i →
    step s = exec i (afterTaking s rest p.pins)) ∧
  (∀ (s : State) (p : Presentation) (rest : List PortItem) (i : Instr) (left : EventVector),
    s.port = .present p :: rest → decodeEvent p.ev = some (i, left) →
    step s = exec i (afterTaking s
      (if left = 0 ∧ p.cw = none then rest else .present { p with ev := left } :: rest) p.pins)) ∧
  (∀ (s : State) (nbits w : Nat) (i : Instr), decodeTableWord nbits w = some i →
    ∃ left, step (s.withFetchWord nbits w) = exec i (afterTaking s left s.pins))

/-- The four events write disjoint registers, so their order does not matter (30 R120). -/
def Obligations.EventsCommute : Prop :=
  ∀ (i j : Instr) (s : State),
    i ∈ [Instr.pulse, .btnPostShort, .btnPostLong, .btnPostLongRep] →
    j ∈ [Instr.pulse, .btnPostShort, .btnPostLong, .btnPostLongRep] →
    run [i, j] s = run [j, i] s

/-- A power-on reset forces the safety outputs inactive, clears the initialised bits and the button
flags, and keeps the store (70 R330, 10 R66, 20 R82). -/
def Obligations.PowerOnForcesSafeOutputs : Prop :=
  ∀ (s : State) (rest : List PortItem), s.port = .powerOn :: rest →
    ∃ t, step s = .next t ∧
      t.eng.pulseEn = false ∧ t.eng.drvEn = false ∧ t.eng.drvSleep = true ∧
      t.eng.drvReset = false ∧ t.eng.stepOut = false ∧ t.eng.engInit = false ∧
      t.app.ledMoving = false ∧ t.app.appInit = false ∧ t.btn = noFlags ∧
      t.store = s.store ∧ t.port = rest

/-- The values 10 R66 gives the registers after power-on. -/
def Obligations.ResetGivesSpecValues : Prop :=
  State.reset.eng.pulseEn = false ∧ State.reset.eng.drvEn = false ∧
  State.reset.eng.drvSleep = true ∧ State.reset.eng.drvReset = false ∧
  State.reset.eng.stepOut = false ∧ State.reset.eng.engInit = false ∧
  State.reset.app.ledMoving = false ∧ State.reset.app.appInit = false ∧
  State.reset.btn = noFlags

/-- Before initialisation (70 R332): every engine operation but ENG.INIT and APP.TICK are refused,
PULSE changes nothing, and ENG.INIT, APP.INIT, the button events and the reserved codes of
ENG.REQUEST are accepted at any time. -/
def Obligations.OperationsBeforeInitialisation : Prop :=
  (∀ (s : State) (c : MotionCommand) (n : Steps) (p : Period), s.eng.engInit = false →
    (∃ r, exec .engShutdown s = .refused r) ∧
    (∃ r, exec (.engRequest (.command c) n) s = .refused r) ∧
    (∃ r, exec .engFastStop s = .refused r) ∧ (∃ r, exec .engTick s = .refused r) ∧
    (∃ r, exec .engGetState s = .refused r) ∧ (∃ r, exec (.engSetRampStart p) s = .refused r) ∧
    (∃ r, exec (.engSetRampEnd p) s = .refused r) ∧ (∃ r, exec .appTick s = .refused r) ∧
    exec .pulse s = .next s) ∧
  (∀ s : State, s.app.appInit = false → ∃ r, exec .appTick s = .refused r) ∧
  (∀ (s : State) (b : BitVec 3) (n : Steps),
    (∃ t, exec .engInit s = .next t) ∧ (∃ t, exec .appInit s = .next t) ∧
    (∃ t, exec .btnPostShort s = .next t) ∧ (∃ t, exec .btnPostLong s = .next t) ∧
    (∃ t, exec .btnPostLongRep s = .next t) ∧ exec (.engRequest (.reserved b) n) s = .next s)

/-! ### Engine operations -/

/-- ENG.INIT writes every engine register with a constant and nothing else (40 R140). -/
def Obligations.EngInitWritesEveryRegister : Prop :=
  encode .engInit = .command 0x1000000000 ∧
  ∀ s : State, exec .engInit s = .next { s with
    eng :=
      { state := .idle, nextState := .idle
        activeCmd := .none, activeSteps := 0, nextCmd := .none, nextSteps := 0
        count := 0, target := 0
        cfgStart := Config.params.rampStartDefault, cfgEnd := Config.params.rampEndDefault
        minPeriod := Config.params.rampStartDefault, maxPeriod := Config.params.rampEndDefault
        currentPeriod := Config.params.rampStartDefault
        stepDecrement := Config.params.stepDecrement
        stableReq := false, pulseEn := false, drvEn := false, drvSleep := true
        drvReset := false, dir := false, stepOut := false
        msSel := Config.params.microstepDefault, engInit := true } }

/-- ENG.SHUTDOWN stops the pulses, disables the driver, puts it to sleep, and writes nothing else
(40 R142). -/
def Obligations.EngShutdownWritesThreeFlags : Prop :=
  encode .engShutdown = .command 0x2000000000 ∧
  ∀ s : State, s.eng.engInit = true → exec .engShutdown s = .next { s with
    eng := { s.eng with pulseEn := false, drvEn := false, drvSleep := true } }

/-- A shutdown in RampUp or RampStable strands the engine there: no pulse arrives and no tick leaves,
until a Stop or ENG.INIT (40 R143 b, 70 R347). -/
def Obligations.ShutdownStrandsTheMotion : Prop :=
  ∀ (s : State) (is : List Instr),
    s.eng.engInit = true → s.eng.nextState = s.eng.state →
    (s.eng.state = .rampUp ∨ s.eng.state = .rampStable) →
    s.eng.count < s.eng.target → seenCmd s.eng ≠ .stop →
    (∀ i ∈ is, i = .pulse ∨ i = .engTick) →
    ∃ t, run (.engShutdown :: is) s = .next t ∧
      (t.eng.state = .rampUp ∨ t.eng.state = .rampStable) ∧
      t.eng.count = s.eng.count ∧ t.eng.stepOut = s.eng.stepOut

/-- ENG.REQUEST stages the command and its step count, forced to 0 unless it is a drive; Stop zeroes
the counters at once; a reserved code is a no-op (40 R145). -/
def Obligations.EngRequestStages : Prop :=
  (∀ (f : CommandField) (n : Steps), encode (.engRequest f n) =
    .command (0x3#4 ++ 0#1 ++ f.bits ++ n)) ∧
  (∀ (s : State) (c : MotionCommand) (n : Steps), s.eng.engInit = true →
    exec (.engRequest (.command c) n) s = .next { s with
      eng := { s.eng with
        nextCmd := c
        nextSteps := if c = .driveUp ∨ c = .driveDown then n else 0
        count := if c = .stop then 0 else s.eng.count
        target := if c = .stop then 0 else s.eng.target } }) ∧
  (∀ (s : State) (b : BitVec 3) (n : Steps), s.eng.engInit = true →
    exec (.engRequest (.reserved b) n) s = .next s)

/-- ENG.FASTSTOP stages Stop, zeroes the counters, disables the pulse interrupt, and writes nothing
else (40 R148). -/
def Obligations.EngFastStopStagesStop : Prop :=
  encode .engFastStop = .command 0x4000000000 ∧
  ∀ s : State, s.eng.engInit = true → exec .engFastStop s = .next { s with
    eng := { s.eng with
      nextCmd := .stop, nextSteps := 0, count := 0, target := 0, pulseEn := false } }

/-- After a Stop is staged, by request or by fast stop, no number of firings changes anything
(40 R146, R149 a, 20 R95). -/
def Obligations.StopSilencesThePulses : Prop :=
  ∀ (s : State) (i : Instr) (n : Steps) (k : Nat), s.eng.engInit = true →
    (i = .engFastStop ∨ i = .engRequest (.command .stop) n) →
    ∃ t, exec i s = .next t ∧ t.eng.count = 0 ∧ t.eng.target = 0 ∧
      (i = .engFastStop → t.eng.pulseEn = false) ∧ run (List.replicate k .pulse) t = .next t

/-- A fast stop and one tick: Idle from RampUp, RampStable and Idle, Arrived from Arrived,
FaultInvalidDirection from RampStart, and a fault state stays (40 R149 b, c, 70 R341). -/
def Obligations.FastStopThenTick : Prop :=
  ∀ s : State, s.eng.engInit = true → s.eng.nextState = s.eng.state →
    s.eng.state ≠ .reserved7 →
    ∃ t, run [.engFastStop, .engTick] s = .next t ∧
      t.eng.state =
        (match s.eng.state with
        | .rampUp => .idle
        | .rampStable => .idle
        | .idle => .idle
        | .rampStart => .faultInvalidDirection
        | other => other) ∧
      t.eng.pulseEn = false ∧ t.eng.drvEn = false

/-- ENG.GETSTATE drives `rdata` with the code of the committed state and writes no register
(40 R150). -/
def Obligations.EngGetStateReadsState : Prop :=
  encode .engGetState = .command 0x6000000000 ∧
  ∀ s : State, s.eng.engInit = true → exec .engGetState s = .next { s with
    rdata :=
      match s.eng.state with
      | .idle => 0
      | .rampStart => 1
      | .rampUp => 2
      | .rampStable => 3
      | .arrived => 4
      | .fault => 5
      | .faultInvalidDirection => 6
      | .reserved7 => 7 }

/-- ENG.SETRAMPSTART writes `cfgStart`, ENG.SETRAMPEND `cfgEnd`, with any 16-bit value, and nothing
else (40 R152, R153). -/
def Obligations.EngSetRampWritesItsBound : Prop :=
  (∀ p : Period, encode (.engSetRampStart p) = .command (0x7#4 ++ 0#20 ++ p) ∧
    encode (.engSetRampEnd p) = .command (0x8#4 ++ 0#20 ++ p)) ∧
  ∀ (s : State) (p : Period), s.eng.engInit = true →
    exec (.engSetRampStart p) s = .next { s with eng := { s.eng with cfgStart := p } } ∧
    exec (.engSetRampEnd p) s = .next { s with eng := { s.eng with cfgEnd := p } }

/-! ### The engine's tick -/

/-- The pickup of a tick, in every state (41 R171): a staged command other than None leaves the
staging registers and becomes the active command, unless the RampStart handler of the same tick
consumes it; a staged None moves nothing. -/
def Obligations.TickPicksUpStagedCommand : Prop :=
  ∀ s : State, s.eng.engInit = true → ∃ t, exec .engTick s = .next t ∧
    t.eng.nextCmd = .none ∧
    t.eng.nextSteps = (if s.eng.nextCmd = .none then s.eng.nextSteps else 0) ∧
    (¬(s.eng.state = .rampStart ∧ (seenCmd s.eng = .driveUp ∨ seenCmd s.eng = .driveDown)) →
      t.eng.activeCmd = seenCmd s.eng ∧ t.eng.activeSteps = seenSteps s.eng)

/-- ENG.TICK in Idle and Arrived (41 R173): the pulse hardware is disabled, a drive command leads to
RampStart and stays active, nothing else changes. -/
def Obligations.TickInIdleOrArrived : Prop :=
  ∀ s : State, s.eng.engInit = true → s.eng.nextState = s.eng.state →
    (s.eng.state = .idle ∨ s.eng.state = .arrived) →
    exec .engTick s = .next { s with
      eng := { pickedUp s.eng with
        pulseEn := false
        drvEn := false
        nextState :=
          if seenCmd s.eng = .driveUp ∨ seenCmd s.eng = .driveDown then .rampStart
          else s.eng.state
        state :=
          if seenCmd s.eng = .driveUp ∨ seenCmd s.eng = .driveDown then .rampStart
          else s.eng.state } }

/-- ENG.TICK in RampStart with a command that is no drive enters FaultInvalidDirection, disables
driver and pulses, and does nothing else (41 R174, 60 R289). -/
def Obligations.TickInRampStartInvalid : Prop :=
  ∀ s : State, s.eng.engInit = true → s.eng.state = .rampStart →
    seenCmd s.eng ≠ .driveUp → seenCmd s.eng ≠ .driveDown →
    exec .engTick s = .next { s with
      eng := { pickedUp s.eng with
        drvEn := false
        pulseEn := false
        nextState := .faultInvalidDirection
        state := .faultInvalidDirection } }

/-- ENG.TICK in RampStart with a drive command starts the ramp (41 R175). -/
def Obligations.TickInRampStartDrive : Prop :=
  ∀ s : State, s.eng.engInit = true → s.eng.state = .rampStart →
    (seenCmd s.eng = .driveUp ∨ seenCmd s.eng = .driveDown) →
    exec .engTick s = .next { s with
      eng := { pickedUp s.eng with
        dir := decide (seenCmd s.eng = .driveUp)
        target := seenSteps s.eng
        count := 0
        activeCmd := .none
        activeSteps := 0
        minPeriod := s.eng.cfgStart
        maxPeriod := if s.eng.cfgEnd ≤ s.eng.cfgStart then s.eng.cfgEnd else s.eng.cfgStart
        currentPeriod := s.eng.cfgStart
        stableReq := false
        drvEn := true
        drvSleep := false
        pulseEn := true
        nextState := .rampUp
        state := .rampUp } }

/-- ENG.TICK in RampUp: Stop, then target reached, then the stable request (41 R176). -/
def Obligations.TickInRampUp : Prop :=
  ∀ s : State, s.eng.engInit = true → s.eng.nextState = s.eng.state → s.eng.state = .rampUp →
    exec .engTick s = .next { s with
      eng :=
        if seenCmd s.eng = .stop then
          { pickedUp s.eng with
            pulseEn := false, drvEn := false, nextState := .idle, state := .idle }
        else if s.eng.count ≥ s.eng.target then
          { pickedUp s.eng with
            pulseEn := false, drvEn := false, nextState := .arrived, state := .arrived }
        else if s.eng.stableReq = true then
          { pickedUp s.eng with
            stableReq := false, nextState := .rampStable, state := .rampStable }
        else pickedUp s.eng }

/-- ENG.TICK in RampStable: Stop, then target reached (41 R177). -/
def Obligations.TickInRampStable : Prop :=
  ∀ s : State, s.eng.engInit = true → s.eng.nextState = s.eng.state →
    s.eng.state = .rampStable →
    exec .engTick s = .next { s with
      eng :=
        if seenCmd s.eng = .stop then
          { pickedUp s.eng with
            pulseEn := false, drvEn := false, nextState := .idle, state := .idle }
        else if s.eng.count ≥ s.eng.target then
          { pickedUp s.eng with
            pulseEn := false, drvEn := false, nextState := .arrived, state := .arrived }
        else pickedUp s.eng }

/-- ENG.TICK in a fault state disables driver and pulses and holds (41 R178); with the reserved state
code it enters Fault (41 R180). -/
def Obligations.TickInFaultOrReservedCode : Prop :=
  (∀ s : State, s.eng.engInit = true → s.eng.nextState = s.eng.state →
    (s.eng.state = .fault ∨ s.eng.state = .faultInvalidDirection) →
    exec .engTick s = .next { s with
      eng := { pickedUp s.eng with drvEn := false, pulseEn := false } }) ∧
  (∀ s : State, s.eng.engInit = true → s.eng.state = .reserved7 →
    exec .engTick s = .next { s with
      eng := { pickedUp s.eng with
        drvEn := false, pulseEn := false, nextState := .fault, state := .fault } })

/-- The complete transition relation of `state` (41 R182): under ENG.TICK the listed pairs and no
other, ENG.INIT to Idle from anywhere, and nothing else moves `state` or `nextState`. -/
def Obligations.MotionStateTransitions : Prop :=
  (∀ s : State, s.eng.engInit = true → s.eng.nextState = s.eng.state →
    ∃ t, exec .engTick s = .next t ∧ t.eng.nextState = t.eng.state ∧ ∀ q : MotionState,
      (t.eng.state = q ∧ q ≠ s.eng.state) ↔
        ((s.eng.state = .idle ∨ s.eng.state = .arrived) ∧ q = .rampStart ∧
          (seenCmd s.eng = .driveUp ∨ seenCmd s.eng = .driveDown)) ∨
        (s.eng.state = .rampStart ∧ q = .rampUp ∧
          (seenCmd s.eng = .driveUp ∨ seenCmd s.eng = .driveDown)) ∨
        (s.eng.state = .rampStart ∧ q = .faultInvalidDirection ∧
          (seenCmd s.eng = .none ∨ seenCmd s.eng = .stop ∨ seenCmd s.eng = .arrived)) ∨
        ((s.eng.state = .rampUp ∨ s.eng.state = .rampStable) ∧ q = .idle ∧
          seenCmd s.eng = .stop) ∨
        ((s.eng.state = .rampUp ∨ s.eng.state = .rampStable) ∧ q = .arrived ∧
          seenCmd s.eng ≠ .stop ∧ s.eng.count ≥ s.eng.target) ∨
        (s.eng.state = .rampUp ∧ q = .rampStable ∧ seenCmd s.eng ≠ .stop ∧
          s.eng.count < s.eng.target ∧ s.eng.stableReq = true) ∨
        (s.eng.state = .reserved7 ∧ q = .fault)) ∧
  (∀ s : State, ∃ t, exec .engInit s = .next t ∧ t.eng.state = .idle) ∧
  (∀ (i : Instr) (s t : State), i ≠ .engTick → i ≠ .engInit → exec i s = .next t →
    t.eng.state = s.eng.state ∧ t.eng.nextState = s.eng.nextState)

/-- A fault state is left by no list of operations and events without ENG.INIT (40 R141 a, 60 R290,
R291). -/
def Obligations.FaultHoldsUntilEngInit : Prop :=
  ∀ (is : List Instr) (s t : State),
    (s.eng.state = .fault ∨ s.eng.state = .faultInvalidDirection) →
    s.eng.nextState = s.eng.state → Instr.engInit ∉ is → run is s = .next t →
    t.eng.state = s.eng.state

/-- How a fault state is entered and what its entry leaves alone (60 R285, R286, R287, R289). -/
def Obligations.FaultEntryIsPrecise : Prop :=
  ∀ (i : Instr) (s t : State), s.eng.nextState = s.eng.state → exec i s = .next t →
    s.eng.state ≠ .fault → s.eng.state ≠ .faultInvalidDirection →
    (t.eng.state = .fault ∨ t.eng.state = .faultInvalidDirection) →
    i = .engTick ∧
    (t.eng.state = .fault → s.eng.state = .reserved7) ∧
    (t.eng.state = .faultInvalidDirection → s.eng.state = .rampStart ∧
      seenCmd s.eng ≠ .driveUp ∧ seenCmd s.eng ≠ .driveDown) ∧
    t = { s with
      eng := { pickedUp s.eng with
        drvEn := false, pulseEn := false, nextState := t.eng.state, state := t.eng.state } }

/-! ### The pulse event -/

/-- PULSE (42 R200, R201, R203): with the gate open the step output toggles, the pulse is counted,
and in RampUp the period shrinks and the stable request is made at the cruise period; with the gate
closed nothing changes. -/
def Obligations.PulseStepsAndRamps : Prop :=
  encode .pulse = .events 0b1000 ∧
  (∀ s : State,
    ¬(s.eng.engInit = true ∧ s.eng.pulseEn = true ∧ s.eng.count < s.eng.target) →
    exec .pulse s = .next s) ∧
  (∀ (s : State) (p : Period),
    s.eng.engInit = true → s.eng.pulseEn = true → s.eng.count < s.eng.target →
    p = (if s.eng.state = .rampUp ∧ s.eng.currentPeriod > s.eng.maxPeriod then
          if s.eng.currentPeriod - s.eng.maxPeriod > s.eng.stepDecrement then
            s.eng.currentPeriod - s.eng.stepDecrement
          else s.eng.maxPeriod
        else s.eng.currentPeriod) →
    exec .pulse s = .next { s with
      eng := { s.eng with
        stepOut := !s.eng.stepOut
        count := s.eng.count + 1
        currentPeriod := p
        stableReq :=
          s.eng.stableReq || decide (s.eng.state = .rampUp ∧ p = s.eng.maxPeriod) } })

/-- The host operations that write the fields the interrupt writes, each with the value it writes
(20 R91): `stepOut` ENG.INIT; `count` the RampStart handler, ENG.REQUEST Stop, ENG.FASTSTOP (from the
port, or nested in APP.TICK) and ENG.INIT, all 0; `currentPeriod` the RampStart handler and ENG.INIT;
`stableReq` the RampStart handler, the consuming tick and ENG.INIT, all 0. -/
def Obligations.InterruptFieldsHaveNamedWriters : Prop :=
  ∀ (i : Instr) (s t : State), i ≠ .pulse → exec i s = .next t →
    (t.eng.stepOut = s.eng.stepOut ∨ (i = .engInit ∧ t.eng.stepOut = false)) ∧
    (t.eng.count = s.eng.count ∨
      (t.eng.count = 0 ∧
        (startsRamp i s ∨ (∃ n, i = .engRequest (.command .stop) n) ∨ i = .engFastStop ∨
          (i = .appTick ∧ t.eng = fastStopped s.eng) ∨ i = .engInit))) ∧
    (t.eng.currentPeriod = s.eng.currentPeriod ∨
      (startsRamp i s ∧ t.eng.currentPeriod = s.eng.cfgStart) ∨
      (i = .engInit ∧ t.eng.currentPeriod = Config.params.rampStartDefault)) ∧
    (t.eng.stableReq = s.eng.stableReq ∨
      (t.eng.stableReq = false ∧
        (startsRamp i s ∨ (i = .engTick ∧ s.eng.state = .rampUp ∧ s.eng.stableReq = true) ∨
          i = .engInit)))

/-- Ramp monotonicity (42 R204): in RampUp above the cruise period an effective pulse makes the
period strictly smaller and never smaller than the cruise period; at the cruise period it stays. The
premise on the profile is 10 R37's invariant and 00 R7's constraint on the decrement. -/
def Obligations.RampIsMonotone : Prop :=
  ∀ s : State, s.eng.engInit = true → s.eng.pulseEn = true → s.eng.count < s.eng.target →
    s.eng.maxPeriod ≤ s.eng.currentPeriod → 1 ≤ s.eng.stepDecrement →
    ∃ t, exec .pulse s = .next t ∧
      s.eng.maxPeriod ≤ t.eng.currentPeriod ∧
      (s.eng.state = .rampUp → s.eng.currentPeriod > s.eng.maxPeriod →
        t.eng.currentPeriod < s.eng.currentPeriod) ∧
      ((s.eng.state ≠ .rampUp ∨ s.eng.currentPeriod = s.eng.maxPeriod) →
        t.eng.currentPeriod = s.eng.currentPeriod)

/-- The number of pulses of a ramp: from the start period the stable request is there after k
effective pulses exactly when k is at least max(1, ceil((minPeriod − maxPeriod) / stepDecrement))
(42 R204). -/
def Obligations.PulsesOfARamp : Prop :=
  ∀ (s : State) (k : Nat), s.eng.engInit = true → s.eng.pulseEn = true →
    s.eng.state = .rampUp → s.eng.stableReq = false → s.eng.currentPeriod = s.eng.minPeriod →
    s.eng.maxPeriod ≤ s.eng.minPeriod → 1 ≤ s.eng.stepDecrement →
    s.eng.count.toNat + k ≤ s.eng.target.toNat →
    ∃ t, run (List.replicate k .pulse) s = .next t ∧
      (t.eng.stableReq = true ↔
        max 1 ((s.eng.minPeriod.toNat - s.eng.maxPeriod.toNat + s.eng.stepDecrement.toNat - 1)
          / s.eng.stepDecrement.toNat) ≤ k)

/-- A motion of N steps arrives after exactly N pulses (41 R184, R179): from Idle or Arrived, a
drive request, two ticks, k pulses and a tick end in Arrived exactly when N ≤ k; the pulses beyond
the Nth change nothing, and the step output has toggled once per counted pulse. -/
def Obligations.MotionArrivesAfterExactlyItsPulses : Prop :=
  ∀ (s : State) (c : MotionCommand) (n : Steps) (k : Nat), s.eng.engInit = true →
    s.eng.nextState = s.eng.state → (s.eng.state = .idle ∨ s.eng.state = .arrived) →
    (c = .driveUp ∨ c = .driveDown) →
    ∃ t, run ([.engRequest (.command c) n, .engTick, .engTick] ++ List.replicate k .pulse ++
        [.engTick]) s = .next t ∧
      (t.eng.state = .arrived ↔ n.toNat ≤ k) ∧
      (t.eng.state = .arrived ∨ t.eng.state = .rampUp ∨ t.eng.state = .rampStable) ∧
      t.eng.count.toNat = min k n.toNat ∧
      t.eng.stepOut = (s.eng.stepOut != decide (min k n.toNat % 2 = 1)) ∧
      t.eng.dir = decide (c = .driveUp)

/-! ### The store -/

/-- NVRead gives the default for an absent or out-of-range value, the value otherwise, bounds
inclusive (20 R83). -/
def Obligations.NVReadFallsBackToDefault : Prop :=
  ∀ (m : Memory) (k : Nat) (d lo hi : Cal),
    (m.read k = none → nvRead m k d lo hi = d) ∧
    (∀ v, m.read k = some v → (v < lo ∨ v > hi) → nvRead m k d lo hi = d) ∧
    (∀ v, m.read k = some v → lo ≤ v → v ≤ hi → nvRead m k d lo hi = v)

/-- NVWrite assigns one key and leaves every other key alone (20 R84), whatever the store. -/
def Obligations.NVWriteAssignsOneKey : Prop :=
  ∀ (m : Memory) (k k' : Nat) (v : Cal),
    (nvWrite m k v).read k' = if k' = k then some v else m.read k'

/-- The calibration round trip (20 R86). -/
def Obligations.CalibrationRoundTrip : Prop :=
  ∀ (m : Memory) (c : CalibrationValue) (v : Cal), c.lo ≤ v → v ≤ c.hi →
    nvRead (nvWrite m c.key v) c.key c.dflt c.lo c.hi = v

/-- Only the long-press commits of the wizard change the store, each at its own key, and only while
no release is awaited (20 R81, R82): every other key, and every key under any other operation or
event, reads as before. -/
def Obligations.OnlyWizardCommitsWriteTheStore : Prop :=
  ∀ (i : Instr) (s t : State) (k : Nat), exec i s = .next t →
    t.store.read k ≠ s.store.read k →
    i = .appTick ∧ s.btn.btnLong = true ∧ s.app.awaitRelease = false ∧
    ((s.app.appState = .setupFloor21 ∧ k = Config.params.level12.key) ∨
      (s.app.appState = .setupFloor10 ∧ k = Config.params.level01.key)) ∧
    t.store.read k = some (accumulatedSteps s)

/-! ### The application -/

/-- APP.INIT loads the calibration and decides the startup path (43 R215). -/
def Obligations.AppInitLoadsCalibration : Prop :=
  encode .appInit = .command 0x9000000000 ∧
  ∀ s : State, exec .appInit s = .next { s with
    app :=
      { longPressTime := nvRead s.store Config.params.longPress.key
          Config.params.longPress.dflt Config.params.longPress.lo Config.params.longPress.hi
        powerOffTimeout := nvRead s.store Config.params.powerOff.key
          Config.params.powerOff.dflt Config.params.powerOff.lo Config.params.powerOff.hi
        level01 := nvRead s.store Config.params.level01.key
          Config.params.level01.dflt Config.params.level01.lo Config.params.level01.hi
        level12 := nvRead s.store Config.params.level12.key
          Config.params.level12.dflt Config.params.level12.lo Config.params.level12.hi
        floor2Timeout := nvRead s.store Config.params.floor2To.key
          Config.params.floor2To.dflt Config.params.floor2To.lo Config.params.floor2To.hi
        current := .floor2, last := .floor2
        initFirst := true, awaitRelease := false, setupSteps := 0, ledMoving := false
        appState := if s.pins.modeSel = true then .setupInit else .init
        appNextState := if s.pins.modeSel = true then .setupInit else .init
        appInit := true } }

/-- APP.TICK in Init (43 R220): the first-entry request, then the fast stop at the top switch. -/
def Obligations.AppTickInInit : Prop :=
  ∀ s : State, Ready s → s.app.appState = .init → s.app.appNextState = s.app.appState →
    exec .appTick s = .next { s with
      eng :=
        if s.pins.topLimit = true then fastStopped s.eng
        else if s.app.initFirst = true then
          driveStaged s.eng .driveUp Config.params.homingSteps
        else s.eng
      app :=
        if s.pins.topLimit = true then
          movedTo { s.app with initFirst := false, current := .floor2, last := .floor2 } .idle
        else { s.app with initFirst := false } }

/-- APP.TICK in Idle (43 R222, R223): both flags are taken and a long press clears the repeat flag;
a short press applies the floor transition table, every row of it; without one nothing else
changes. -/
def Obligations.AppTickInIdle : Prop :=
  (∀ s : State, Ready s → s.app.appState = .idle → s.app.appNextState = s.app.appState →
    s.btn.btnShort = false → exec .appTick s = .next { s with btn := idleFlags s.btn }) ∧
  (∀ s : State, Ready s → s.app.appState = .idle → s.app.appNextState = s.app.appState →
    s.btn.btnShort = true → exec .appTick s = .next
      (match s.app.current, s.app.last with
      | .floor2, _ => afterPress s .drivingDown .driveDown s.app.level12 .floor1 .floor2
      | .floor1, .floor2 => afterPress s .drivingDown .driveDown s.app.level01 .floor0 .floor1
      | .floor1, .floor0 => afterPress s .drivingUp .driveUp s.app.level12 .floor2 .floor1
      | .floor0, _ => afterPress s .drivingUp .driveUp s.app.level01 .floor1 .floor0
      | .floor1, .floor1 => { s with btn := idleFlags s.btn }
      | .floor1, .reserved3 => { s with btn := idleFlags s.btn }
      | .reserved3, _ => { s with btn := idleFlags s.btn }))

/-- APP.TICK in DrivingUp (43 R225): Arrived ends the wait, the top switch stops the engine. That the
nested ENG.GETSTATE leaves `rdata` alone is the model's reading (log 11). -/
def Obligations.AppTickInDrivingUp : Prop :=
  ∀ s : State, Ready s → s.app.appState = .drivingUp → s.app.appNextState = s.app.appState →
    exec .appTick s = .next { s with
      eng := if s.pins.topLimit = true then fastStopped s.eng else s.eng
      app :=
        if s.pins.topLimit = true ∨ s.eng.state = .arrived then
          movedTo { s.app with ledMoving := false } .idle
        else s.app }

/-- APP.TICK in DrivingDown (43 R226): Arrived ends the wait; the bottom switch stops the engine
only under the policy `DOWN_LIMIT_ABORT`. That the nested ENG.GETSTATE leaves `rdata` alone is the
model's reading (log 11). -/
def Obligations.AppTickInDrivingDown : Prop :=
  ∀ s : State, Ready s → s.app.appState = .drivingDown → s.app.appNextState = s.app.appState →
    exec .appTick s = .next { s with
      eng :=
        if Config.params.downLimitAbort = true ∧ s.pins.bottomLimit = true then
          fastStopped s.eng
        else s.eng
      app :=
        if (Config.params.downLimitAbort = true ∧ s.pins.bottomLimit = true) ∨
            s.eng.state = .arrived then
          movedTo { s.app with ledMoving := false } .idle
        else s.app }

/-- APP.TICK in SetupInit (44 R250): the first-entry request, then the fast stop at the top
switch. -/
def Obligations.AppTickInSetupInit : Prop :=
  ∀ s : State, Ready s → s.app.appState = .setupInit → s.app.appNextState = s.app.appState →
    exec .appTick s = .next { s with
      eng :=
        if s.pins.topLimit = true then fastStopped s.eng
        else if s.app.initFirst = true then
          driveStaged s.eng .driveUp Config.params.homingSteps
        else s.eng
      app :=
        if s.pins.topLimit = true then
          movedTo { s.app with initFirst := false, setupSteps := 0 } .setupFloor21
        else { s.app with initFirst := false } }

/-- APP.TICK in SetupFloor21 and SetupFloor10 while no release is awaited and no long press is
pending: a short press jogs downward and is accumulated modulo 2^16 (44 R252, R254). -/
def Obligations.AppTickJogs : Prop :=
  ∀ s : State, Ready s → isSetupFloor s.app.appState → s.app.appNextState = s.app.appState →
    s.app.awaitRelease = false → s.btn.btnLong = false →
    exec .appTick s = .next { s with
      eng :=
        if s.btn.btnShort = true then
          driveStaged s.eng .driveDown (Config.params.jogSteps.setWidth 32)
        else s.eng
      app := { s.app with
        setupSteps :=
          if s.btn.btnShort = true then s.app.setupSteps + Config.params.jogSteps
          else s.app.setupSteps }
      btn := { s.btn with btnShort := false } }

/-- APP.TICK in SetupFloor21 with a long press (44 R252, R253, R256): the jog of a pending short press
first, then the accumulated count is written and read back; with the mode input released the state
is left in the same tick. -/
def Obligations.AppTickCommitsFloor21 : Prop :=
  ∀ (s : State) (m : Memory), Ready s → s.app.appState = .setupFloor21 →
    s.app.appNextState = s.app.appState → s.app.awaitRelease = false → s.btn.btnLong = true →
    m = nvWrite s.store Config.params.level12.key (accumulatedSteps s) →
    exec .appTick s = .next { s with
      eng := joggedEngine s
      store := m
      btn :=
        if s.pins.modeSel = true then { s.btn with btnShort := false, btnLong := false }
        else noFlags
      app :=
        if s.pins.modeSel = true then
          { s.app with
            setupSteps := accumulatedSteps s
            awaitRelease := true
            level12 := nvRead m Config.params.level12.key Config.params.level12.dflt
              Config.params.level12.lo Config.params.level12.hi }
        else
          leftSetup { s.app with
            level12 := nvRead m Config.params.level12.key Config.params.level12.dflt
              Config.params.level12.lo Config.params.level12.hi } .setupFloor10 }

/-- APP.TICK in SetupFloor10 with a long press (44 R254, R255, R256): as in SetupFloor21 with the
other key and register; the state is left to Init, which homes again. -/
def Obligations.AppTickCommitsFloor10 : Prop :=
  ∀ (s : State) (m : Memory), Ready s → s.app.appState = .setupFloor10 →
    s.app.appNextState = s.app.appState → s.app.awaitRelease = false → s.btn.btnLong = true →
    m = nvWrite s.store Config.params.level01.key (accumulatedSteps s) →
    exec .appTick s = .next { s with
      eng := joggedEngine s
      store := m
      btn :=
        if s.pins.modeSel = true then { s.btn with btnShort := false, btnLong := false }
        else noFlags
      app :=
        if s.pins.modeSel = true then
          { s.app with
            setupSteps := accumulatedSteps s
            awaitRelease := true
            level01 := nvRead m Config.params.level01.key Config.params.level01.dflt
              Config.params.level01.lo Config.params.level01.hi }
        else
          leftSetup { s.app with
            initFirst := true
            level01 := nvRead m Config.params.level01.key Config.params.level01.dflt
              Config.params.level01.lo Config.params.level01.hi } .init }

/-- APP.TICK while a release is awaited (44 R256): nothing happens with the mode input held; on
release the accumulator and all button flags are cleared and the state is left. -/
def Obligations.AppTickAwaitsRelease : Prop :=
  ∀ s : State, Ready s → isSetupFloor s.app.appState → s.app.appNextState = s.app.appState →
    s.app.awaitRelease = true → exec .appTick s = .next
      (if s.pins.modeSel = true then s
      else if s.app.appState = .setupFloor21 then
        { s with btn := noFlags, app := leftSetup s.app .setupFloor10 }
      else
        { s with btn := noFlags, app := leftSetup { s.app with initFirst := true } .init })

/-- APP.TICK with the reserved state code runs no handler (43 R216). -/
def Obligations.AppTickInReservedCode : Prop :=
  ∀ s : State, Ready s → s.app.appState = .reserved7 → s.app.appNextState = s.app.appState →
    exec .appTick s = .next s

/-- The complete transition relation of `appState` under APP.TICK (43 R228). A jog state is left in
the tick of the long press too, whose commit sets `awaitRelease` before the release test (44 R256). -/
def Obligations.AppStateTransitions : Prop :=
  ∀ s : State, Ready s → s.app.appNextState = s.app.appState →
    ∃ t, exec .appTick s = .next t ∧ t.app.appNextState = t.app.appState ∧ ∀ q : AppState,
      (t.app.appState = q ∧ q ≠ s.app.appState) ↔
        (s.app.appState = .init ∧ q = .idle ∧ s.pins.topLimit = true) ∨
        (s.app.appState = .idle ∧ q = .drivingDown ∧ s.btn.btnShort = true ∧
          (s.app.current = .floor2 ∨ (s.app.current = .floor1 ∧ s.app.last = .floor2))) ∨
        (s.app.appState = .idle ∧ q = .drivingUp ∧ s.btn.btnShort = true ∧
          (s.app.current = .floor0 ∨ (s.app.current = .floor1 ∧ s.app.last = .floor0))) ∨
        (s.app.appState = .drivingUp ∧ q = .idle ∧
          (s.eng.state = .arrived ∨ s.pins.topLimit = true)) ∨
        (s.app.appState = .drivingDown ∧ q = .idle ∧
          (s.eng.state = .arrived ∨
            (Config.params.downLimitAbort = true ∧ s.pins.bottomLimit = true))) ∨
        (s.app.appState = .setupInit ∧ q = .setupFloor21 ∧ s.pins.topLimit = true) ∨
        (s.app.appState = .setupFloor21 ∧ q = .setupFloor10 ∧
          (s.app.awaitRelease = true ∨ s.btn.btnLong = true) ∧ s.pins.modeSel = false) ∨
        (s.app.appState = .setupFloor10 ∧ q = .init ∧
          (s.app.awaitRelease = true ∨ s.btn.btnLong = true) ∧ s.pins.modeSel = false)

/-- What APP.TICK can do to the engine (43 R218, 20 R91): only what the nested request and fast stop
write; it never enables the pulses and never counts. -/
def Obligations.AppTickReachesEngineByCommandsOnly : Prop :=
  ∀ s t : State, exec .appTick s = .next t →
    t.eng = { s.eng with
      nextCmd := t.eng.nextCmd, nextSteps := t.eng.nextSteps, count := t.eng.count,
      target := t.eng.target, pulseEn := t.eng.pulseEn } ∧
    (t.eng = s.eng ∨ t.eng = fastStopped s.eng ∨
      (∃ n, t.eng = driveStaged s.eng .driveUp n) ∨
      (∃ n, t.eng = driveStaged s.eng .driveDown n))

/-- The frame of every operation and event: the engine operations and PULSE leave the application
and the store, only the button events and APP.TICK write the flags, only ENG.GETSTATE drives the
read-data output (30 R119), and nothing writes the inputs or what will be presented. That the
ENG.GETSTATE nested in APP.TICK does not drive the output is the model's reading (log 11); the port
and the free-value counter are the model's fields (log 4, log 7). -/
def Obligations.OperationsKeepToTheirRecord : Prop :=
  ∀ (i : Instr) (s t : State), exec i s = .next t →
    (i ≠ .appInit → i ≠ .appTick → t.app = s.app) ∧
    (i ≠ .appTick → t.store = s.store) ∧
    (i ∉ [Instr.appTick, .btnPostShort, .btnPostLong, .btnPostLongRep] → t.btn = s.btn) ∧
    (i ∈ [Instr.appInit, .btnPostShort, .btnPostLong, .btnPostLongRep, .engGetState] →
      t.eng = s.eng) ∧
    (i ≠ .engGetState → t.rdata = s.rdata) ∧
    t.pins = s.pins ∧ t.port = s.port ∧ t.freeCount = s.freeCount

/-- The engine cannot learn anything of the application, the store, the inputs or the button flags
but through the commands of APP.TICK (43 R218, 20 R81): any other operation or event does the same to
two machines with the same engine. -/
def Obligations.EngineBlindToApplication : Prop :=
  ∀ (i : Instr) (s t s' : State), i ≠ .appTick → s'.eng = s.eng → exec i s = .next t →
    ∃ t', exec i s' = .next t' ∧ t'.eng = t.eng

/-- The events of the button driver set one flag each and do nothing else (45 R270). -/
def Obligations.ButtonEventsSetTheirFlag : Prop :=
  encode .btnPostShort = .events 0b0001 ∧ encode .btnPostLong = .events 0b0010 ∧
  encode .btnPostLongRep = .events 0b0100 ∧
  ∀ s : State,
    exec .btnPostShort s = .next { s with btn := { s.btn with btnShort := true } } ∧
    exec .btnPostLong s = .next { s with btn := { s.btn with btnLong := true } } ∧
    exec .btnPostLongRep s = .next { s with btn := { s.btn with btnLongRep := true } }

/-- The wizard's scenario (44 R258), for any number of presses: n short presses and a long one in
SetupFloor21 store n times the jog increment, modulo 2^16, and go on to SetupFloor10 in the same
tick if the mode input is released. -/
def Obligations.WizardStoresTheJogs : Prop :=
  ∀ (s : State) (n : Nat), Ready s → s.app.appState = .setupFloor21 →
    s.app.appNextState = s.app.appState → s.app.awaitRelease = false →
    s.app.setupSteps = 0 → s.btn = noFlags →
    ∃ t, run ((List.replicate n [Instr.btnPostShort, .appTick]).flatten ++
        [.btnPostLong, .appTick]) s = .next t ∧
      t.store.read Config.params.level12.key =
        some (BitVec.ofNat 16 (n * Config.params.jogSteps.toNat)) ∧
      (s.pins.modeSel = false → t.app.appState = .setupFloor10) ∧
      (s.pins.modeSel = true → t.app.appState = .setupFloor21 ∧ t.app.awaitRelease = true)

/-! ### The whole machine -/

/-- Once both machines are initialised no operation or event is refused and they stay initialised,
and every step has a next state (70 R332). -/
def Obligations.NothingRefusedOnceReady : Prop :=
  (∀ (i : Instr) (s : State), Ready s → ∃ t, exec i s = .next t ∧ Ready t) ∧
  (∀ s : State, Ready s → ∃ t, step s = .next t)

/-- Every step keeps the invariant (10 R24, R30, R37, R48, R50 and the others `Inv` names). -/
def Obligations.StepKeepsTheInvariant : Prop :=
  ∀ s t : State, Inv s → step s = .next t → Inv t

/-- The invariant holds after power-on. -/
def Obligations.InvariantHoldsAfterReset : Prop := Inv State.reset
end

