-- ==== Sys2Proof/Laws/State.lean ====
section
/-! SUPPORT. The fields of every named update of State: each true by rfl, so that no proof unfolds a
record update. -/

namespace Sys2Proof.Machine

/-! ### `State.withEng` -/

@[simp] theorem State.withEng_eng (s : State) (e : Engine) : (s.withEng e).eng = e := rfl

@[simp] theorem State.withEng_app (s : State) (e : Engine) : (s.withEng e).app = s.app := rfl

@[simp] theorem State.withEng_btn (s : State) (e : Engine) : (s.withEng e).btn = s.btn := rfl

@[simp] theorem State.withEng_store (s : State) (e : Engine) : (s.withEng e).store = s.store := rfl

@[simp] theorem State.withEng_pins (s : State) (e : Engine) : (s.withEng e).pins = s.pins := rfl

@[simp] theorem State.withEng_rdata (s : State) (e : Engine) : (s.withEng e).rdata = s.rdata := rfl

@[simp] theorem State.withEng_port (s : State) (e : Engine) : (s.withEng e).port = s.port := rfl

@[simp] theorem State.withEng_freeCount (s : State) (e : Engine) :
    (s.withEng e).freeCount = s.freeCount := rfl

/-! ### `State.withApp` -/

@[simp] theorem State.withApp_eng (s : State) (a : App) : (s.withApp a).eng = s.eng := rfl

@[simp] theorem State.withApp_app (s : State) (a : App) : (s.withApp a).app = a := rfl

@[simp] theorem State.withApp_btn (s : State) (a : App) : (s.withApp a).btn = s.btn := rfl

@[simp] theorem State.withApp_store (s : State) (a : App) : (s.withApp a).store = s.store := rfl

@[simp] theorem State.withApp_pins (s : State) (a : App) : (s.withApp a).pins = s.pins := rfl

@[simp] theorem State.withApp_rdata (s : State) (a : App) : (s.withApp a).rdata = s.rdata := rfl

@[simp] theorem State.withApp_port (s : State) (a : App) : (s.withApp a).port = s.port := rfl

@[simp] theorem State.withApp_freeCount (s : State) (a : App) :
    (s.withApp a).freeCount = s.freeCount := rfl

/-! ### `State.withBtn` -/

@[simp] theorem State.withBtn_eng (s : State) (b : Buttons) : (s.withBtn b).eng = s.eng := rfl

@[simp] theorem State.withBtn_app (s : State) (b : Buttons) : (s.withBtn b).app = s.app := rfl

@[simp] theorem State.withBtn_btn (s : State) (b : Buttons) : (s.withBtn b).btn = b := rfl

@[simp] theorem State.withBtn_store (s : State) (b : Buttons) : (s.withBtn b).store = s.store := rfl

@[simp] theorem State.withBtn_pins (s : State) (b : Buttons) : (s.withBtn b).pins = s.pins := rfl

@[simp] theorem State.withBtn_rdata (s : State) (b : Buttons) : (s.withBtn b).rdata = s.rdata := rfl

@[simp] theorem State.withBtn_port (s : State) (b : Buttons) : (s.withBtn b).port = s.port := rfl

@[simp] theorem State.withBtn_freeCount (s : State) (b : Buttons) :
    (s.withBtn b).freeCount = s.freeCount := rfl

/-! ### `State.withStore` -/

@[simp] theorem State.withStore_eng (s : State) (m : Memory) : (s.withStore m).eng = s.eng := rfl

@[simp] theorem State.withStore_app (s : State) (m : Memory) : (s.withStore m).app = s.app := rfl

@[simp] theorem State.withStore_btn (s : State) (m : Memory) : (s.withStore m).btn = s.btn := rfl

@[simp] theorem State.withStore_store (s : State) (m : Memory) : (s.withStore m).store = m := rfl

@[simp] theorem State.withStore_pins (s : State) (m : Memory) : (s.withStore m).pins = s.pins := rfl

@[simp] theorem State.withStore_rdata (s : State) (m : Memory) :
    (s.withStore m).rdata = s.rdata := rfl

@[simp] theorem State.withStore_port (s : State) (m : Memory) : (s.withStore m).port = s.port := rfl

@[simp] theorem State.withStore_freeCount (s : State) (m : Memory) :
    (s.withStore m).freeCount = s.freeCount := rfl

/-! ### `State.withPins` -/

@[simp] theorem State.withPins_eng (s : State) (p : Pins) : (s.withPins p).eng = s.eng := rfl

@[simp] theorem State.withPins_app (s : State) (p : Pins) : (s.withPins p).app = s.app := rfl

@[simp] theorem State.withPins_btn (s : State) (p : Pins) : (s.withPins p).btn = s.btn := rfl

@[simp] theorem State.withPins_store (s : State) (p : Pins) : (s.withPins p).store = s.store := rfl

@[simp] theorem State.withPins_pins (s : State) (p : Pins) : (s.withPins p).pins = p := rfl

@[simp] theorem State.withPins_rdata (s : State) (p : Pins) : (s.withPins p).rdata = s.rdata := rfl

@[simp] theorem State.withPins_port (s : State) (p : Pins) : (s.withPins p).port = s.port := rfl

@[simp] theorem State.withPins_freeCount (s : State) (p : Pins) :
    (s.withPins p).freeCount = s.freeCount := rfl

/-! ### `State.withRdata` -/

@[simp] theorem State.withRdata_eng (s : State) (r : BitVec 3) : (s.withRdata r).eng = s.eng := rfl

@[simp] theorem State.withRdata_app (s : State) (r : BitVec 3) : (s.withRdata r).app = s.app := rfl

@[simp] theorem State.withRdata_btn (s : State) (r : BitVec 3) : (s.withRdata r).btn = s.btn := rfl

@[simp] theorem State.withRdata_store (s : State) (r : BitVec 3) :
    (s.withRdata r).store = s.store := rfl

@[simp] theorem State.withRdata_pins (s : State) (r : BitVec 3) :
    (s.withRdata r).pins = s.pins := rfl

@[simp] theorem State.withRdata_rdata (s : State) (r : BitVec 3) : (s.withRdata r).rdata = r := rfl

@[simp] theorem State.withRdata_port (s : State) (r : BitVec 3) :
    (s.withRdata r).port = s.port := rfl

@[simp] theorem State.withRdata_freeCount (s : State) (r : BitVec 3) :
    (s.withRdata r).freeCount = s.freeCount := rfl

/-! ### `State.withPort` -/

@[simp] theorem State.withPort_eng (s : State) (q : List PortItem) :
    (s.withPort q).eng = s.eng := rfl

@[simp] theorem State.withPort_app (s : State) (q : List PortItem) :
    (s.withPort q).app = s.app := rfl

@[simp] theorem State.withPort_btn (s : State) (q : List PortItem) :
    (s.withPort q).btn = s.btn := rfl

@[simp] theorem State.withPort_store (s : State) (q : List PortItem) :
    (s.withPort q).store = s.store := rfl

@[simp] theorem State.withPort_pins (s : State) (q : List PortItem) :
    (s.withPort q).pins = s.pins := rfl

@[simp] theorem State.withPort_rdata (s : State) (q : List PortItem) :
    (s.withPort q).rdata = s.rdata := rfl

@[simp] theorem State.withPort_port (s : State) (q : List PortItem) : (s.withPort q).port = q := rfl

@[simp] theorem State.withPort_freeCount (s : State) (q : List PortItem) :
    (s.withPort q).freeCount = s.freeCount := rfl

/-! ### `State.withFreeCount` -/

@[simp] theorem State.withFreeCount_eng (s : State) (n : Nat) :
    (s.withFreeCount n).eng = s.eng := rfl

@[simp] theorem State.withFreeCount_app (s : State) (n : Nat) :
    (s.withFreeCount n).app = s.app := rfl

@[simp] theorem State.withFreeCount_btn (s : State) (n : Nat) :
    (s.withFreeCount n).btn = s.btn := rfl

@[simp] theorem State.withFreeCount_store (s : State) (n : Nat) :
    (s.withFreeCount n).store = s.store := rfl

@[simp] theorem State.withFreeCount_pins (s : State) (n : Nat) :
    (s.withFreeCount n).pins = s.pins := rfl

@[simp] theorem State.withFreeCount_rdata (s : State) (n : Nat) :
    (s.withFreeCount n).rdata = s.rdata := rfl

@[simp] theorem State.withFreeCount_port (s : State) (n : Nat) :
    (s.withFreeCount n).port = s.port := rfl

@[simp] theorem State.withFreeCount_freeCount (s : State) (n : Nat) :
    (s.withFreeCount n).freeCount = n := rfl

/-! ### `State.releaseRdata` -/

@[simp] theorem State.releaseRdata_eng (s : State) : s.releaseRdata.eng = s.eng := rfl

@[simp] theorem State.releaseRdata_app (s : State) : s.releaseRdata.app = s.app := rfl

@[simp] theorem State.releaseRdata_btn (s : State) : s.releaseRdata.btn = s.btn := rfl

@[simp] theorem State.releaseRdata_store (s : State) : s.releaseRdata.store = s.store := rfl

@[simp] theorem State.releaseRdata_pins (s : State) : s.releaseRdata.pins = s.pins := rfl

@[simp] theorem State.releaseRdata_rdata (s : State) :
    s.releaseRdata.rdata = Config.freeRdata s.freeCount := rfl

@[simp] theorem State.releaseRdata_port (s : State) : s.releaseRdata.port = s.port := rfl

@[simp] theorem State.releaseRdata_freeCount (s : State) :
    s.releaseRdata.freeCount = s.freeCount + 1 := rfl

/-! ### `State.powerOnReset` -/

@[simp] theorem State.powerOnReset_eng (s : State) : s.powerOnReset.eng = Engine.reset := rfl

@[simp] theorem State.powerOnReset_app (s : State) : s.powerOnReset.app = App.reset := rfl

@[simp] theorem State.powerOnReset_btn (s : State) : s.powerOnReset.btn = Buttons.reset := rfl

@[simp] theorem State.powerOnReset_store (s : State) : s.powerOnReset.store = s.store := rfl

@[simp] theorem State.powerOnReset_pins (s : State) : s.powerOnReset.pins = s.pins := rfl

@[simp] theorem State.powerOnReset_rdata (s : State) : s.powerOnReset.rdata = s.rdata := rfl

@[simp] theorem State.powerOnReset_port (s : State) : s.powerOnReset.port = s.port := rfl

@[simp] theorem State.powerOnReset_freeCount (s : State) :
    s.powerOnReset.freeCount = s.freeCount := rfl

/-! ### `State.driveRdata` -/

@[simp] theorem State.driveRdata_eng (s : State) (m : MotionState) :
    (s.driveRdata m).eng = s.eng := rfl

@[simp] theorem State.driveRdata_app (s : State) (m : MotionState) :
    (s.driveRdata m).app = s.app := rfl

@[simp] theorem State.driveRdata_btn (s : State) (m : MotionState) :
    (s.driveRdata m).btn = s.btn := rfl

@[simp] theorem State.driveRdata_store (s : State) (m : MotionState) :
    (s.driveRdata m).store = s.store := rfl

@[simp] theorem State.driveRdata_pins (s : State) (m : MotionState) :
    (s.driveRdata m).pins = s.pins := rfl

@[simp] theorem State.driveRdata_rdata (s : State) (m : MotionState) :
    (s.driveRdata m).rdata = m.code := rfl

@[simp] theorem State.driveRdata_port (s : State) (m : MotionState) :
    (s.driveRdata m).port = s.port := rfl

@[simp] theorem State.driveRdata_freeCount (s : State) (m : MotionState) :
    (s.driveRdata m).freeCount = s.freeCount := rfl

/-! ### Nested engine operations -/

@[simp] theorem State.request_eng (s : State) (c : MotionCommand) (n : Steps) :
    (s.request c n).eng = s.eng.request c n := rfl

@[simp] theorem State.request_app (s : State) (c : MotionCommand) (n : Steps) :
    (s.request c n).app = s.app := rfl

@[simp] theorem State.request_btn (s : State) (c : MotionCommand) (n : Steps) :
    (s.request c n).btn = s.btn := rfl

@[simp] theorem State.request_store (s : State) (c : MotionCommand) (n : Steps) :
    (s.request c n).store = s.store := rfl

@[simp] theorem State.request_pins (s : State) (c : MotionCommand) (n : Steps) :
    (s.request c n).pins = s.pins := rfl

@[simp] theorem State.request_rdata (s : State) (c : MotionCommand) (n : Steps) :
    (s.request c n).rdata = s.rdata := rfl

@[simp] theorem State.request_port (s : State) (c : MotionCommand) (n : Steps) :
    (s.request c n).port = s.port := rfl

@[simp] theorem State.request_freeCount (s : State) (c : MotionCommand) (n : Steps) :
    (s.request c n).freeCount = s.freeCount := rfl

@[simp] theorem State.fastStop_eng (s : State) : s.fastStop.eng = s.eng.fastStop := rfl

@[simp] theorem State.fastStop_app (s : State) : s.fastStop.app = s.app := rfl

@[simp] theorem State.fastStop_btn (s : State) : s.fastStop.btn = s.btn := rfl

@[simp] theorem State.fastStop_store (s : State) : s.fastStop.store = s.store := rfl

@[simp] theorem State.fastStop_pins (s : State) : s.fastStop.pins = s.pins := rfl

@[simp] theorem State.fastStop_rdata (s : State) : s.fastStop.rdata = s.rdata := rfl

@[simp] theorem State.fastStop_port (s : State) : s.fastStop.port = s.port := rfl

@[simp] theorem State.fastStop_freeCount (s : State) : s.fastStop.freeCount = s.freeCount := rfl

/-! ### The state after power-on -/

@[simp] theorem State.reset_eng : State.reset.eng = Engine.reset := rfl

@[simp] theorem State.reset_app : State.reset.app = App.reset := rfl

@[simp] theorem State.reset_btn : State.reset.btn = Buttons.reset := rfl

@[simp] theorem State.reset_store : State.reset.store = [] := rfl

@[simp] theorem State.reset_port : State.reset.port = [] := rfl

end Sys2Proof.Machine
end

