-- ==== Sys2Proof/Laws/Engine.lean ====
section
/-! SUPPORT. What each shared operation of the engine does, said once: provers cite these instead of
unfolding the operation. -/

namespace Sys2Proof.Machine

open Sys2Proof.Safety

/-! ### Operations refused before initialisation -/

/-- An engine operation that answers a next state ran on an initialised engine. -/
theorem engineOp_eq_next {f : Engine → Engine} {s t : State} :
    engineOp f s = .next t ↔ s.eng.engInit = true ∧ s.withEng (f s.eng) = t := by
  unfold engineOp
  split <;> simp_all

/-- An initialised engine runs the operation. -/
theorem engineOp_of_init (f : Engine → Engine) {s : State} (h : s.eng.engInit = true) :
    engineOp f s = .next (s.withEng (f s.eng)) := by
  simp [engineOp, h]

/-- Before ENG.INIT the operation is refused. -/
theorem engineOp_of_not_init (f : Engine → Engine) {s : State} (h : s.eng.engInit = false) :
    engineOp f s = .refused .engineNotInitialised := by
  simp [engineOp, h]

/-! ### Staging -/

/-- A request writes the staged pair, and the counters for a Stop. -/
theorem Engine.request_eq (e : Engine) (c : MotionCommand) (n : Steps) :
    e.request c n = { e with
      nextCmd := c
      nextSteps := stagedSteps c n
      count := if c = .stop then 0 else e.count
      target := if c = .stop then 0 else e.target } := by
  unfold Engine.request
  split <;> simp_all [Engine.zeroCounters]

/-- A fast stop writes the staged pair, the counters and the interrupt enable. -/
theorem Engine.fastStop_eq (e : Engine) : e.fastStop = fastStopped e := by
  rfl

/-- A request of a drive command stages the pair and nothing else. -/
theorem Engine.request_drive (e : Engine) {c : MotionCommand} (n : Steps) (h : c.isDrive = true) :
    e.request c n = driveStaged e c n := by
  cases c <;> simp_all [MotionCommand.isDrive] <;> rfl

/-- The drive commands are the two directions. -/
theorem MotionCommand.isDrive_iff (c : MotionCommand) :
    c.isDrive = true ↔ c = .driveUp ∨ c = .driveDown := by
  cases c <;> decide

/-! ### The tick -/

/-- The pickup, register by register. -/
theorem Engine.pickup_eq (e : Engine) : e.pickup = pickedUp e := by
  obtain ⟨_, _, _, _, nextCmd, _, _, _, _, _, _, _, _, _, _, _, _, _, _, _, _, _, _⟩ := e
  cases nextCmd <;> rfl

/-- The pickup moves no state. -/
@[simp] theorem Engine.pickup_state (e : Engine) : e.pickup.state = e.state := by
  rw [Engine.pickup_eq]; rfl

/-- What no tick writes: the step output, the driver reset, the microstep lines, the configured
bounds, the decrement and the initialised bit. -/
theorem Engine.tick_frame (e : Engine) :
    e.tick.stepOut = e.stepOut ∧ e.tick.drvReset = e.drvReset ∧ e.tick.msSel = e.msSel ∧
    e.tick.cfgStart = e.cfgStart ∧ e.tick.cfgEnd = e.cfgEnd ∧
    e.tick.stepDecrement = e.stepDecrement ∧ e.tick.engInit = e.engInit := by
  unfold Engine.tick
  rw [Engine.pickup_eq]
  unfold Engine.handler Engine.commit
  split <;>
    simp [Engine.idleHandler, Engine.rampStartHandler, Engine.rampUpHandler,
      Engine.rampStableHandler, Engine.startRamp, Engine.raise, Engine.disable, pickedUp] <;>
    split_ifs <;> simp

/-- ENG.TICK on an initialised engine, with the pickup done. -/
theorem execEngTick_of_init {s : State} (h : s.eng.engInit = true) :
    execEngTick s = .next (s.withEng (pickedUp s.eng).handler.commit) := by
  rw [← Engine.pickup_eq]
  exact engineOp_of_init Engine.tick h

/-- The drive test of a handler is on the command the tick sees. -/
theorem pickedUp_isDrive (e : Engine) :
    (pickedUp e).activeCmd.isDrive = decide (seenCmd e = .driveUp ∨ seenCmd e = .driveDown) := by
  show (seenCmd e).isDrive = _
  cases seenCmd e <;> decide

/-- The motion state a tick commits, from the state, the command it sees, whether the target is
reached and the stable request. -/
def motionAfter (st : MotionState) (c : MotionCommand) (reached stable : Bool) : MotionState :=
  match st with
  | .idle => if c = .driveUp ∨ c = .driveDown then .rampStart else st
  | .arrived => if c = .driveUp ∨ c = .driveDown then .rampStart else st
  | .rampStart => if c = .driveUp ∨ c = .driveDown then .rampUp else .faultInvalidDirection
  | .rampUp =>
    if c = .stop then .idle else if reached then .arrived else if stable then .rampStable else st
  | .rampStable => if c = .stop then .idle else if reached then .arrived else st
  | .fault => st
  | .faultInvalidDirection => st
  | .reserved7 => .fault

/-- A tick that starts with the staged state committed ends in `motionAfter`. -/
theorem Engine.handler_nextState (e : Engine) (hc : e.nextState = e.state) :
    (pickedUp e).handler.nextState =
      motionAfter e.state (seenCmd e) (decide (e.target ≤ e.count)) e.stableReq := by
  have hs : (pickedUp e).state = e.state := rfl
  have hn : (pickedUp e).nextState = e.state := hc
  have h1 : (pickedUp e).activeCmd = seenCmd e := rfl
  have h2 : (pickedUp e).count = e.count := rfl
  have h3 : (pickedUp e).target = e.target := rfl
  have h4 : (pickedUp e).stableReq = e.stableReq := rfl
  have hd := pickedUp_isDrive e
  unfold Engine.handler
  rw [hs]
  cases hst : e.state <;> simp only [motionAfter]
  case idle => simp only [Engine.idleHandler, hd, hn, hst, decide_eq_true_eq]
  case arrived => simp only [Engine.idleHandler, hd, hn, hst, decide_eq_true_eq]
  case rampStart =>
    simp only [Engine.rampStartHandler, hd, decide_eq_true_eq]
    split <;> rfl
  case rampUp =>
    simp only [Engine.rampUpHandler, h1, h2, h3, h4, decide_eq_true_eq]
    split_ifs <;> first | rfl | rw [hn, hst]
  case rampStable =>
    simp only [Engine.rampStableHandler, h1, h2, h3, decide_eq_true_eq]
    split_ifs <;> first | rfl | rw [hn, hst]
  case fault => rw [← hst, ← hn]; rfl
  case faultInvalidDirection => rw [← hst, ← hn]; rfl
  case reserved7 => rfl

/-! ### The pulse -/

/-- A gated pulse changes nothing. -/
theorem Engine.pulse_of_gated (e : Engine) (h : e.pulseGate = false) : e.pulse = e := by
  simp [Engine.pulse, h]

/-- An effective pulse writes the step output, the count, and in RampUp the period and the stable
request. -/
theorem Engine.pulse_of_open (e : Engine) (h : e.pulseGate = true) :
    e.pulse = { e with
      stepOut := !e.stepOut
      count := e.count + 1
      currentPeriod := if e.state = .rampUp then e.nextPeriod else e.currentPeriod
      stableReq := e.stableReq || decide (e.state = .rampUp ∧ e.nextPeriod = e.maxPeriod) } := by
  have hn : e.stepPart.nextPeriod = e.nextPeriod := rfl
  have hs : e.stepPart.state = e.state := rfl
  unfold Engine.pulse Engine.rampPart
  rw [if_pos h, hn, hs]
  by_cases h1 : e.state = .rampUp
  · by_cases h2 : e.nextPeriod = e.maxPeriod <;> simp [h1, h2, Engine.stepPart]
  · simp [h1, Engine.stepPart]

/-- The only registers a pulse can write. -/
theorem Engine.pulse_frame (e : Engine) :
    e.pulse = { e with
      stepOut := e.pulse.stepOut
      count := e.pulse.count
      currentPeriod := e.pulse.currentPeriod
      stableReq := e.pulse.stableReq } := by
  cases h : e.pulseGate
  · rw [Engine.pulse_of_gated e h]
  · rw [Engine.pulse_of_open e h]

/-- The gate, field by field. -/
theorem Engine.pulseGate_iff (e : Engine) :
    e.pulseGate = true ↔ e.engInit = true ∧ e.pulseEn = true ∧ e.count < e.target := by
  simp [Engine.pulseGate, and_assoc]

/-- One decrement stays between the cruise period and the period before. -/
theorem Engine.nextPeriod_bounds (e : Engine) (h : e.maxPeriod ≤ e.currentPeriod) :
    e.maxPeriod ≤ e.nextPeriod ∧ e.nextPeriod ≤ e.currentPeriod := by
  unfold Engine.nextPeriod
  split
  · split <;> constructor <;> bv_omega
  · exact ⟨h, BitVec.le_refl _⟩

end Sys2Proof.Machine
end

