-- ==== Sys2Proof/Laws/App.lean ====
section
/-! SUPPORT. What each shared operation of the application does, said once. -/

namespace Sys2Proof.Machine

open Sys2Proof.Safety

/-- The parts of the state no application handler writes. -/
def SameOutside (s t : State) : Prop :=
  t.pins = s.pins ∧ t.rdata = s.rdata ∧ t.port = s.port ∧ t.freeCount = s.freeCount

theorem SameOutside.refl (s : State) : SameOutside s s := ⟨rfl, rfl, rfl, rfl⟩

theorem SameOutside.trans {s t u : State} (h : SameOutside s t) (k : SameOutside t u) :
    SameOutside s u :=
  ⟨k.1.trans h.1, k.2.1.trans h.2.1, k.2.2.1.trans h.2.2.1, k.2.2.2.trans h.2.2.2⟩

/-- The first-entry request stages the homing drive and clears the flag. -/
theorem homingRequest_eq (c : Config) (s : State) :
    homingRequest c s = { s with
      eng := if s.app.initFirst then driveStaged s.eng .driveUp c.homingSteps else s.eng
      app := { s.app with initFirst := false } } := by
  unfold homingRequest
  by_cases h : s.app.initFirst = true
  · simp only [h, if_true]
    rfl
  · have h' : s.app.initFirst = false := by simpa using h
    simp only [h', Bool.false_eq_true, if_false]
    rw [← h']

/-- The jog stages a downward drive and accumulates the increment. -/
theorem jog_eq (c : Config) (s : State) :
    jog c s = { s with
      eng := driveStaged s.eng .driveDown (stepOperand c.jogSteps)
      app := { s.app with setupSteps := s.app.setupSteps + c.jogSteps } } := rfl

theorem SameOutside.jog (c : Config) (s : State) : SameOutside s (jog c s) := ⟨rfl, rfl, rfl, rfl⟩

theorem SameOutside.commitFloor21 (c : Config) (s : State) : SameOutside s (commitFloor21 c s) :=
  ⟨rfl, rfl, rfl, rfl⟩

theorem SameOutside.commitFloor10 (c : Config) (s : State) : SameOutside s (commitFloor10 c s) :=
  ⟨rfl, rfl, rfl, rfl⟩

theorem SameOutside.applyFloorTable (s : State) : SameOutside s (applyFloorTable s) := by
  unfold Machine.applyFloorTable
  split <;> exact ⟨rfl, rfl, rfl, rfl⟩

theorem SameOutside.releaseTest (s : State) : SameOutside s (releaseTest s) := by
  unfold Machine.releaseTest
  split
  · exact SameOutside.refl s
  · exact ⟨rfl, rfl, rfl, rfl⟩

theorem SameOutside.takePresses (c : Config) {commit : State → State} (s : State)
    (h : ∀ s, SameOutside s (commit s)) : SameOutside s (takePresses c commit s) := by
  unfold Machine.takePresses
  simp only
  split <;> split
  · exact SameOutside.trans ⟨rfl, rfl, rfl, rfl⟩ (h _)
  · exact SameOutside.trans ⟨rfl, rfl, rfl, rfl⟩ (h _)
  · exact ⟨rfl, rfl, rfl, rfl⟩
  · exact ⟨rfl, rfl, rfl, rfl⟩

theorem SameOutside.setupFloorHandler (c : Config) {commit : State → State} (s : State)
    (h : ∀ s, SameOutside s (commit s)) : SameOutside s (setupFloorHandler c commit s) := by
  have hp : SameOutside s (if s.app.awaitRelease then s else Machine.takePresses c commit s) := by
    split
    · exact SameOutside.refl s
    · exact SameOutside.takePresses c s h
  unfold Machine.setupFloorHandler
  simp only
  generalize (if s.app.awaitRelease then s else Machine.takePresses c commit s) = u at hp ⊢
  split
  · exact hp.trans (SameOutside.releaseTest _)
  · exact hp

/-- No application handler writes the inputs, the read-data output or what will be presented. -/
theorem SameOutside.appTick (c : Config) (s : State) : SameOutside s (appTick c s) := by
  have h : SameOutside s (appHandler c s) := by
    unfold appHandler
    split
    · unfold initHandler
      rw [homingRequest_eq]
      simp only
      split <;> exact ⟨rfl, rfl, rfl, rfl⟩
    · unfold idleHandler
      have hb : SameOutside s (s.withBtn s.btn.takeShort.2.takeLong.2) := ⟨rfl, rfl, rfl, rfl⟩
      simp only
      generalize s.withBtn s.btn.takeShort.2.takeLong.2 = u at hb ⊢
      have ht := hb.trans (SameOutside.applyFloorTable u)
      cases s.btn.takeShort.1 <;> cases s.btn.takeShort.2.takeLong.1
      · exact hb
      · exact hb.trans ⟨rfl, rfl, rfl, rfl⟩
      · exact ht
      · exact ht.trans ⟨rfl, rfl, rfl, rfl⟩
    · unfold drivingUpHandler drivingHandler
      simp only
      split <;> split <;> exact ⟨rfl, rfl, rfl, rfl⟩
    · unfold drivingDownHandler drivingHandler
      simp only
      split <;> split <;> exact ⟨rfl, rfl, rfl, rfl⟩
    · unfold setupInitHandler
      rw [homingRequest_eq]
      simp only
      split <;> exact ⟨rfl, rfl, rfl, rfl⟩
    · exact SameOutside.setupFloorHandler c s (SameOutside.commitFloor21 c)
    · exact SameOutside.setupFloorHandler c s (SameOutside.commitFloor10 c)
    · exact SameOutside.refl s
  exact h.trans ⟨rfl, rfl, rfl, rfl⟩

/-- APP.TICK answers a next state exactly on an initialised machine. -/
theorem execAppTick_eq_next {s t : State} :
    execAppTick s = .next t ↔ Ready s ∧ appTick Config.params s = t := by
  unfold execAppTick Ready
  split
  · split <;> simp_all
  · simp_all

/-- APP.TICK on an initialised machine. -/
theorem execAppTick_of_ready {s : State} (h : Ready s) :
    execAppTick s = .next (appTick Config.params s) :=
  execAppTick_eq_next.mpr ⟨h, rfl⟩

/-- A driving handler stops the engine exactly when its limit test holds. -/
theorem drivingHandler_eng (limit : Bool) (s : State) :
    (drivingHandler limit s).eng = if limit then fastStopped s.eng else s.eng := by
  unfold drivingHandler
  by_cases h : s.eng.state = .arrived <;> simp only [h, if_true, if_false] <;> cases limit <;> rfl

/-- A driving handler writes the indicator and the staged state, when either test holds. -/
theorem drivingHandler_app (limit : Bool) (s : State) :
    (drivingHandler limit s).app =
      if limit = true ∨ s.eng.state = .arrived then
        { s.app with ledMoving := false, appNextState := .idle }
      else s.app := by
  unfold drivingHandler
  by_cases h : s.eng.state = .arrived <;> simp only [h, if_true, if_false] <;> cases limit <;> rfl

end Sys2Proof.Machine
end

