-- ==== Sys2Proof/Laws/Decode.lean ====
section
/-! SUPPORT. The fields of an assembled command word, and the command codes. -/

namespace Sys2Proof

/-- The `op` field of an assembled word. -/
@[simp] theorem opField_commandWord (op : BitVec 4) (cmd : BitVec 3) (val : BitVec 32) :
    opField (commandWord op cmd val) = op := by
  unfold opField commandWord
  ext i hi
  simp only [BitVec.getElem_extractLsb', BitVec.getLsbD_append]
  have h1 : ¬ 36 + i < 32 := by omega
  have h2 : ¬ 36 + i - 32 < 3 := by omega
  have h3 : ¬ 36 + i - 32 - 3 < 1 := by omega
  have h4 : 36 + i - 32 - 3 - 1 = i := by omega
  simp [h1, h2, h3, h4, BitVec.getLsbD_eq_getElem hi]

/-- The `rsv` field of an assembled word is 0. -/
@[simp] theorem rsvField_commandWord (op : BitVec 4) (cmd : BitVec 3) (val : BitVec 32) :
    rsvField (commandWord op cmd val) = false := by
  unfold rsvField commandWord
  simp only [BitVec.getLsbD_append]
  rfl

/-- The `cmd` field of an assembled word. -/
@[simp] theorem cmdField_commandWord (op : BitVec 4) (cmd : BitVec 3) (val : BitVec 32) :
    cmdField (commandWord op cmd val) = cmd := by
  unfold cmdField commandWord
  ext i hi
  simp only [BitVec.getElem_extractLsb', BitVec.getLsbD_append]
  have h1 : ¬ 32 + i < 32 := by omega
  have h2 : 32 + i - 32 = i := by omega
  simp [h2, hi]

/-- The `val` field of an assembled word. -/
@[simp] theorem valField_commandWord (op : BitVec 4) (cmd : BitVec 3) (val : BitVec 32) :
    valField (commandWord op cmd val) = val := by
  unfold valField commandWord
  ext i hi
  simp only [BitVec.getElem_extractLsb', BitVec.getLsbD_append]
  simp [hi]

/-- The period operand is the low half of the `val` field. -/
theorem periodField_eq (cw : CommandWord) : periodField cw = (valField cw).setWidth 16 := by
  unfold periodField valField
  ext i hi
  have : i < 32 := by omega
  simp [BitVec.getElem_extractLsb', BitVec.getElem_setWidth, this]

/-- The period operand of an assembled word. -/
@[simp] theorem periodField_commandWord (op : BitVec 4) (cmd : BitVec 3) (p : Period) :
    periodField (commandWord op cmd (p.setWidth 32)) = p := by
  rw [periodField_eq, valField_commandWord, BitVec.setWidth_setWidth_of_le p (by decide),
    BitVec.setWidth_eq]

/-- The decode mask of an assembled command word leaves its operation code alone. -/
theorem commandWord_and_mask (op : BitVec 4) (cmd : BitVec 3) (val : BitVec 32) :
    commandWord op cmd val &&& 0xF800000000 = commandWord op 0 0 := by
  apply BitVec.eq_of_getLsbD_eq
  intro i hi
  have hm : (0xF800000000 : CommandWord) = (0b1111#4 ++ 1#1 ++ 0#3 ++ 0#32 : BitVec 40) := by decide
  rw [hm, BitVec.getLsbD_and]
  unfold commandWord
  simp only [BitVec.getLsbD_append]
  by_cases h1 : i < 32
  · simp [h1]
  · by_cases h2 : i - 32 < 3
    · simp [h1, h2]
    · by_cases h3 : i - 32 - 3 < 1
      · simp [h1, h2, h3]
      · have h4 : i - 32 - 3 - 1 < 4 := by omega
        simp only [h1, h2, h3, if_false]
        generalize i - 32 - 3 - 1 = j at h4 ⊢
        have : j = 0 ∨ j = 1 ∨ j = 2 ∨ j = 3 := by omega
        rcases this with rfl | rfl | rfl | rfl <;> simp

/-- A command field that is well formed is read back from its bits. -/
theorem CommandField.ofBits_bits (f : CommandField) (h : f.wellFormed = true) :
    CommandField.ofBits f.bits = f := by
  cases f with
  | command c => cases c <;> rfl
  | reserved b => revert b; decide

/-- Every command field that is read is well formed. -/
theorem CommandField.wellFormed_ofBits (b : BitVec 3) :
    (CommandField.ofBits b).wellFormed = true := by
  revert b; decide

end Sys2Proof
end

