-- ==== Sys2Proof/Laws/PerInstr.lean ====
section
/-! SUPPORT. A law of every instruction, one lemma per constructor: the word of an instruction
matches the opcode table's row of it. -/

namespace Sys2Proof.Laws.RowMatch

/-- The encoded instruction has the bits of its row under the row's mask (30 R111, R120). -/
def Statement (i : Instr) : Prop := i.row.matchesWord (encode i) = true

theorem engInit : Statement (.engInit) := by
  unfold Statement
  decide

theorem engShutdown : Statement (.engShutdown) := by
  unfold Statement
  decide

theorem engRequest (cmd : CommandField) (steps : Steps) : Statement (.engRequest cmd steps) := by
  simp only [Statement, Instr.row, encode, Row.matchesWord, commandWord_and_mask]
  rfl

theorem engFastStop : Statement (.engFastStop) := by
  unfold Statement
  decide

theorem engTick : Statement (.engTick) := by
  unfold Statement
  decide

theorem engGetState : Statement (.engGetState) := by
  unfold Statement
  decide

theorem engSetRampStart (period : Period) : Statement (.engSetRampStart period) := by
  simp only [Statement, Instr.row, encode, Row.matchesWord, commandWord_and_mask]
  rfl

theorem engSetRampEnd (period : Period) : Statement (.engSetRampEnd period) := by
  simp only [Statement, Instr.row, encode, Row.matchesWord, commandWord_and_mask]
  rfl

theorem appInit : Statement (.appInit) := by
  unfold Statement
  decide

theorem appTick : Statement (.appTick) := by
  unfold Statement
  decide

theorem pulse : Statement (.pulse) := by
  unfold Statement
  decide

theorem btnPostShort : Statement (.btnPostShort) := by
  unfold Statement
  decide

theorem btnPostLong : Statement (.btnPostLong) := by
  unfold Statement
  decide

theorem btnPostLongRep : Statement (.btnPostLongRep) := by
  unfold Statement
  decide

end Sys2Proof.Laws.RowMatch
end

