-- ==== Sys2Proof/Laws/Step.lean ====
section
/-! SUPPORT. What a step can do, said once; and runs of a list of operations and events. -/

namespace Sys2Proof.Machine

open Sys2Proof.Safety

/-- The state in which what a step takes from the port runs differs from the state before only in
the port, the inputs and the read-data output. -/
theorem releaseRdata_fetch (s : State) :
    ∃ q p, s.releaseRdata.fetch.2 = afterTaking s q p := by
  unfold State.fetch
  split
  · rename_i h
    exact ⟨s.port, s.pins, rfl⟩
  · exact ⟨_, s.pins, rfl⟩
  · exact ⟨_, _, rfl⟩

/-- A step that answers a next state is an instruction, a power-on reset, or nothing, in the state
with the port advanced. -/
theorem step_cases {s t : State} (h : step s = .next t) :
    ∃ q p, (∃ i, exec i (afterTaking s q p) = .next t) ∨
      t = (afterTaking s q p).powerOnReset ∨ t = afterTaking s q p := by
  obtain ⟨q, p, hf⟩ := releaseRdata_fetch s
  refine ⟨q, p, ?_⟩
  unfold step at h
  generalize s.releaseRdata.fetch = x at h hf
  obtain ⟨f, u⟩ := x
  obtain rfl : u = afterTaking s q p := hf
  cases f with
  | instr i => exact .inl ⟨i, h⟩
  | powerOn => exact .inr (.inl (Host.Outcome.next.inj h).symm)
  | nothing why => exact .inr (.inr (Host.Outcome.next.inj h).symm)
  | idle => exact .inr (.inr (Host.Outcome.next.inj h).symm)

/-- A step runs at most one instruction, so it answers a next state if every instruction does. -/
theorem step_next_of_exec {s : State}
    (h : ∀ i q p, ∃ t, exec i (afterTaking s q p) = .next t) : ∃ t, step s = .next t := by
  obtain ⟨q, p, hf⟩ := releaseRdata_fetch s
  unfold step
  generalize s.releaseRdata.fetch = x at hf
  obtain ⟨f, u⟩ := x
  obtain rfl : u = afterTaking s q p := hf
  cases f with
  | instr i => exact h i q p
  | powerOn => exact ⟨_, rfl⟩
  | nothing why => exact ⟨_, rfl⟩
  | idle => exact ⟨_, rfl⟩

/-- The first of a run. -/
theorem run_cons {i : Instr} {s t : State} (is : List Instr) (h : exec i s = .next t) :
    run (i :: is) s = run is t := by
  simp only [run, h]

/-- A run in two parts. -/
theorem run_append {l : List Instr} {s t : State} (r : List Instr) (h : run l s = .next t) :
    run (l ++ r) s = run r t := by
  induction l generalizing s with
  | nil =>
    cases h
    rfl
  | cons i l ih =>
    simp only [run, List.cons_append] at h ⊢
    cases he : exec i s with
    | next u =>
      rw [he] at h
      exact ih h
    | fault f => rw [he] at h; cases h
    | refused r => rw [he] at h; cases h

/-- A run of pulses is the iterated effect of the pulse on the engine. -/
theorem run_pulses (k : Nat) (s : State) :
    run (List.replicate k .pulse) s = .next (s.withEng (Engine.pulse^[k] s.eng)) := by
  induction k generalizing s with
  | zero => rfl
  | succ k ih =>
    show run (List.replicate k .pulse) (s.withEng s.eng.pulse) = _
    rw [ih]
    rfl

end Sys2Proof.Machine
end

