-- ==== Sys2Proof/Laws/Store.lean ====
section
/-! SUPPORT. Laws of the store: a write keeps the canonical form and adds at most its own key; a
calibration value that is read lies in its range. -/

namespace Sys2Proof.Machine

/-- The keys after a write are the keys before and the key written. -/
theorem Memory.mem_keys_write (m : Memory) (k : Nat) (v : Cal) (x : Nat) :
    x ∈ (m.write k v).map Prod.fst ↔ x = k ∨ x ∈ m.map Prod.fst := by
  induction m with
  | nil => simp [Memory.write]
  | cons c m ih =>
    obtain ⟨k', v'⟩ := c
    unfold Memory.write
    split
    · simp
    · split
      · subst_vars
        simp
      · rw [List.map_cons, List.mem_cons, ih, List.map_cons, List.mem_cons]
        tauto

/-- The empty store is in canonical form. -/
theorem Memory.wf_nil : Memory.wf [] := List.Pairwise.nil

/-- A write keeps the canonical form. -/
theorem Memory.wf_write (m : Memory) (k : Nat) (v : Cal) (h : m.wf) : (m.write k v).wf := by
  induction m with
  | nil => simp [Memory.write, Memory.wf]
  | cons c m ih =>
    obtain ⟨k', v'⟩ := c
    rw [Memory.wf, List.map_cons, List.pairwise_cons] at h
    unfold Memory.write
    split
    · rename_i hlt
      rw [Memory.wf, List.map_cons, List.pairwise_cons, List.map_cons, List.pairwise_cons]
      refine ⟨?_, h⟩
      intro x hx
      rcases List.mem_cons.mp hx with rfl | hx
      · exact hlt
      · exact lt_trans hlt (h.1 x hx)
    · split
      · subst_vars
        rw [Memory.wf, List.map_cons, List.pairwise_cons]
        exact h
      · rename_i h1 h2
        rw [Memory.wf, List.map_cons, List.pairwise_cons]
        refine ⟨?_, ih h.2⟩
        intro x hx
        rcases (Memory.mem_keys_write m k v x).mp hx with rfl | hx
        · simp only at h1 h2 ⊢
          omega
        · exact h.1 x hx

/-- NVWrite keeps the canonical form. -/
theorem nvWrite_wf (m : Memory) (k : Nat) (v : Cal) (h : m.wf) : (nvWrite m k v).wf :=
  Memory.wf_write m k v h

/-- A calibration value that is loaded lies in its legal range, whatever the store holds. -/
theorem loadCal_mem_range (m : Memory) (c : CalibrationValue) :
    c.lo ≤ loadCal m c ∧ loadCal m c ≤ c.hi := by
  unfold loadCal nvRead
  split
  · exact ⟨c.lo_le_dflt, c.dflt_le_hi⟩
  · split
    · exact ⟨c.lo_le_dflt, c.dflt_le_hi⟩
    · rename_i h
      rw [not_or] at h
      exact ⟨BitVec.not_lt.mp h.1, BitVec.not_lt.mp h.2⟩

end Sys2Proof.Machine
end

