-- ==== Sys2Proof/Tests/Slice0.lean ====
section
/-! SUPPORT. Tests of single operations, with expected values from 95_test_vectors.md (the vector is
named at each), and witnesses of the obligations' hypotheses. -/

namespace Sys2Proof.Tests

open Sys2Proof.Machine Sys2Proof.Safety

/-- The example configuration EX1 (95, section 0). -/
def ex1 : Config := {}

/-- The engine of vector G1. -/
def eng0 : Engine := Engine.initialised ex1

/-- Both machines initialised under EX1 with an empty store, `mode=0` (A1). -/
def base : State where
  eng := eng0
  app := App.initialised ex1 [] false
  btn := noFlags
  store := []
  pins := { topLimit := false, bottomLimit := false, modeSel := false }
  rdata := 0
  port := []
  freeCount := 0

/-- An engine in a motion state, as after the commit. -/
def engIn (m : MotionState) : Engine := { eng0 with state := m, nextState := m }

/-- An engine in the middle of a motion: 2 of 5 pulses done. -/
def running (m : MotionState) : Engine :=
  { engIn m with count := 2, target := 5, pulseEn := true, drvEn := true, drvSleep := false }

/-- The base state with another engine. -/
def withE (e : Engine) : State := base.withEng e

/-- The base state in an application state, with button flags and a mode input. -/
def inApp (a : AppState) (b : Buttons) (mode : Bool) : State where
  eng := eng0
  app := { base.app with appState := a, appNextState := a, initFirst := false }
  btn := b
  store := []
  pins := { topLimit := false, bottomLimit := false, modeSel := mode }
  rdata := 0
  port := []
  freeCount := 0

/-- The inputs with the top switch closed. -/
def topClosed : Pins := { topLimit := true, bottomLimit := false, modeSel := false }

/-- The flags with only `btnShort`, only `btnLong`, both. -/
def short : Buttons := { btnShort := true, btnLong := false, btnLongRep := false }

def long : Buttons := { btnShort := false, btnLong := true, btnLongRep := false }

def both : Buttons := { btnShort := true, btnLong := true, btnLongRep := true }

/-- The next state, if there is one. -/
def out : Result → Option State
  | .next t => some t
  | .fault _ => none
  | .refused _ => none

/-- The engine of the next state. -/
def outE (r : Result) : Option Engine := (out r).map (·.eng)

/-- A command word from its fields, written out as 30 R111 lays them. -/
def word (op : BitVec 4) (rsv : BitVec 1) (cmd : BitVec 3) (val : BitVec 32) : PortWord :=
  .command (op ++ rsv ++ cmd ++ val)

/-! ### Well-formedness and decoding -/

theorem test_ill_formed_reserved_code :
    (Instr.engRequest (.reserved 4) 0).wellFormed = false ∧
    (Instr.engRequest (.reserved 0) 0).wellFormed = false ∧
    (Instr.engRequest (.reserved 5) 0).wellFormed = true := by decide

/-- E1, E2, E9, E10, E11, E14, E15. -/
theorem test_decode_format_n :
    decode (word 0b0001 0b0 0b000 0x00000000) = .ok .engInit ∧
    decode (word 0b0010 0b0 0b000 0x00000000) = .ok .engShutdown ∧
    decode (word 0b0100 0b0 0b000 0x00000000) = .ok .engFastStop ∧
    decode (word 0b0101 0b0 0b000 0x00000000) = .ok .engTick ∧
    decode (word 0b0110 0b0 0b000 0x00000000) = .ok .engGetState ∧
    decode (word 0b1001 0b0 0b000 0x00000000) = .ok .appInit ∧
    decode (word 0b1010 0b0 0b000 0x00000000) = .ok .appTick := ⟨rfl, rfl, rfl, rfl, rfl, rfl, rfl⟩

/-- E3 to E8. -/
theorem test_decode_format_r :
    decode (word 0b0011 0b0 0b000 0x00000000) = .ok (.engRequest (.command .none) 0) ∧
    decode (word 0b0011 0b0 0b001 0x00000000) = .ok (.engRequest (.command .stop) 0) ∧
    decode (word 0b0011 0b0 0b010 0x00000000) = .ok (.engRequest (.command .arrived) 0) ∧
    decode (word 0b0011 0b0 0b011 0x00000005) = .ok (.engRequest (.command .driveUp) 5) ∧
    decode (word 0b0011 0b0 0b100 0x00000320) = .ok (.engRequest (.command .driveDown) 800) ∧
    decode (word 0b0011 0b0 0b011 0xFFFFFFFF) =
      .ok (.engRequest (.command .driveUp) 4294967295) := ⟨rfl, rfl, rfl, rfl, rfl, rfl⟩

/-- E12, E13, E20. -/
theorem test_decode_format_p :
    decode (word 0b0111 0b0 0b000 0x000004B0) = .ok (.engSetRampStart 1200) ∧
    decode (word 0b1000 0b0 0b000 0x0000012C) = .ok (.engSetRampEnd 300) ∧
    decode (word 0b0111 0b0 0b000 0xABCD04B0) = .ok (.engSetRampStart 1200) := ⟨rfl, rfl, rfl⟩

/-- E22, E23, and the first of E24. -/
theorem test_decode_events :
    decode (.events 0b1000) = .ok .pulse ∧ decode (.events 0b0001) = .ok .btnPostShort ∧
    decode (.events 0b0010) = .ok .btnPostLong ∧ decode (.events 0b0100) = .ok .btnPostLongRep ∧
    decodeEvent 0b1001 = some (.pulse, 0b0001) := ⟨rfl, rfl, rfl, rfl, rfl⟩

/-- E16 to E19, E21. -/
theorem test_decode_reserved :
    decode (.command 0x0000000000) = .error .opcode ∧
    decode (.command 0xB000000000) = .error .opcode ∧
    decode (.command 0xF000000000) = .error .opcode ∧
    decode (.command 0x3B00000005) = .error .rsvBit ∧
    decode (.command 0x3500000007) = .ok (.engRequest (.reserved 5) 7) ∧
    decode (.command 0x1712345678) = .ok .engInit ∧
    decode (.events 0) = .error .noEvent := ⟨rfl, rfl, rfl, rfl, rfl, rfl, rfl⟩

/-- The words of the trace lines E6 and E12. -/
theorem test_encode :
    encode (.engRequest (.command .driveUp) 5) = .command 0x3300000005 ∧
    encode (.engSetRampStart 1200) = .command 0x70000004B0 := by decide

theorem test_table_words :
    decodeTableWord 40 0x5000000000 = some .engTick ∧ decodeTableWord 8 8 = some .pulse ∧
    decodeTableWord 4 1 = some .btnPostShort ∧ decodeTableWord 8 16 = none ∧
    decodeTableWord 40 0 = none := by decide

/-! ### Steps from reset -/

/-- ENG.INIT, and the button event of vector B2, as the first step after reset. -/
theorem test_first_step_runs :
    (outE (step (State.reset.withFetchWord 40 0x1000000000))).map (·.engInit) = some true ∧
    (out (step (State.reset.withFetchWord 8 2))).map (·.btn) = some long := ⟨rfl, rfl⟩

/-- G2 and A4: refused before initialisation. Q7: a pulse changes no register. -/
theorem test_before_initialisation :
    out (step (State.reset.withFetchWord 40 0x5000000000)) = none ∧
    out (exec .appTick (withE eng0 |>.withApp App.reset)) = none ∧
    exec .pulse State.reset = .next State.reset := ⟨rfl, rfl, rfl⟩

/-- E24: PULSE and BTN.POST.SHORT presented together run in two steps, then the command. -/
theorem test_events_before_command :
    (out (step (base.withPort
      [.present { ev := 0b0001, cw := some 0x3300000005, pins := base.pins }]))).map
        (fun t => (t.btn.btnShort, t.eng.nextCmd, t.port)) =
      some (true, .none,
        [.present { ev := 0, cw := some 0x3300000005, pins := base.pins }]) := by decide

/-- E16, E18: reserved words change nothing but the port. -/
theorem test_reserved_word_is_no_op :
    (out (step (base.withFetchWord 40 0x3B00000005))).map (fun t => (t.eng, t.app, t.btn)) =
      some (base.eng, base.app, base.btn) := by decide

/-! ### Engine operations -/

/-- G1. -/
theorem test_engInit_values :
    (eng0.state, eng0.cfgStart, eng0.minPeriod, eng0.cfgEnd, eng0.maxPeriod, eng0.drvSleep) =
      (.idle, 1000, 1000, 400, 400, true) := by decide

/-- G7: a shutdown in RampStable. -/
theorem test_engShutdown_in_motion :
    (outE (exec .engShutdown (withE (running .rampStable)))).map
      (fun e => (e.state, e.pulseEn, e.drvEn, e.drvSleep, e.count)) =
      some (.rampStable, false, false, true, 2) := by decide

/-- G5: the step field of a Stop is 0, the counters are zeroed, the interrupt stays enabled. -/
theorem test_engRequest_stop :
    (outE (exec (.engRequest (.command .stop) 77) (withE (running .rampUp)))).map
      (fun e => (e.nextCmd, e.nextSteps, e.count, e.target, e.pulseEn)) =
      some (.stop, 0, 0, 0, true) := by decide

/-- E19: a reserved command code stages nothing. -/
theorem test_engRequest_reserved :
    outE (exec (.engRequest (.reserved 5) 7) (withE (running .rampUp))) =
      some (running .rampUp) := by decide

/-- G12. -/
theorem test_engFastStop :
    (outE (exec .engFastStop (withE (running .rampStable)))).map
      (fun e => (e.nextCmd, e.count, e.target, e.pulseEn, e.drvEn, e.state)) =
      some (.stop, 0, 0, false, true, .rampStable) := by decide

/-- G11. -/
theorem test_engGetState_fault :
    (out (exec .engGetState (withE (engIn .faultInvalidDirection)))).map (·.rdata) = some 6 := by
  decide

/-- G10: a running ramp keeps its bounds. -/
theorem test_engSetRampEnd_in_ramp :
    (outE (exec (.engSetRampEnd 100) (withE (running .rampUp)))).map
      (fun e => (e.cfgEnd, e.maxPeriod)) = some (100, 400) := by decide

/-- P2, step 2. -/
theorem test_engSetRampStart :
    (outE (exec (.engSetRampStart 1200) base)).map (fun e => (e.cfgStart, e.minPeriod)) =
      some (1200, 1000) := by decide

/-! ### The engine's tick -/

/-- T2 and T3: pickup and RampStart, then the start of the ramp. -/
theorem test_engTick_start :
    (outE (exec .engTick (withE { eng0 with nextCmd := .driveUp, nextSteps := 5 }))).map
      (fun e => (e.state, e.activeCmd, e.activeSteps, e.nextCmd, e.target)) =
      some (.rampStart, .driveUp, 5, .none, 0) ∧
    (outE (exec .engTick (withE
      { engIn .rampStart with activeCmd := .driveUp, activeSteps := 5 }))).map
      (fun e => (e.state, e.dir, e.target, e.currentPeriod, e.pulseEn, e.activeCmd)) =
      some (.rampUp, true, 5, 1000, true, .none) := ⟨by decide, by decide⟩

/-- T5 and T11: arrival keeps the stable request; a Stop in RampStart is an invalid direction. -/
theorem test_engTick_ends :
    (outE (exec .engTick (withE { running .rampUp with count := 5, stableReq := true }))).map
      (fun e => (e.state, e.pulseEn, e.drvEn, e.stableReq)) =
      some (.arrived, false, false, true) ∧
    (outE (exec .engTick (withE { engIn .rampStart with
      activeCmd := .driveUp, activeSteps := 10, nextCmd := .stop }))).map
      (fun e => (e.state, e.activeCmd, e.dir)) =
      some (.faultInvalidDirection, .stop, false) := by decide

/-! ### The pulse -/

/-- Q1, third pulse: the period lands on the cruise period, the request is set. -/
theorem test_pulse_reaches_cruise :
    (outE (exec .pulse (withE { running .rampUp with currentPeriod := 600 }))).map
      (fun e => (e.currentPeriod, e.stableReq, e.count, e.stepOut)) =
      some (400, true, 3, true) := by decide

/-- Q8 and Q5: a decrement larger than the distance; the gate at the target. -/
theorem test_pulse_clamp_and_gate :
    (outE (exec .pulse (withE { running .rampUp with stepDecrement := 601 }))).map
      (fun e => (e.currentPeriod, e.stableReq)) = some (400, true) ∧
    outE (exec .pulse (withE { running .rampStable with count := 5 })) =
      some { running .rampStable with count := 5 } := by decide

/-! ### The store -/

/-- M1 to M3c. -/
theorem test_nvRead_bounds :
    nvRead [] 4 1500 1 60000 = 1500 ∧ nvRead [(4, 0)] 4 1500 1 60000 = 1500 ∧
    nvRead [(4, 60000)] 4 1500 1 60000 = 60000 ∧ nvRead [(4, 60001)] 4 1500 1 60000 = 1500 ∧
    nvRead [(4, 1)] 4 1500 1 60000 = 1 := by decide

/-- M4, M6, and the order of the keys. -/
theorem test_nvWrite :
    nvWrite [] 4 500 = [(4, 500)] ∧ nvWrite [(3, 100), (5, 7)] 4 0 = [(3, 100), (4, 0), (5, 7)] ∧
    nvWrite [(4, 500)] 4 500 = [(4, 500)] := by decide

/-! ### The application -/

/-- A1 and A2. -/
theorem test_appInit :
    (fun a : App => (a.level12, a.longPressTime, a.appState, a.current))
      (App.initialised ex1 [] false) = (1500, 1000, .init, .floor2) ∧
    (fun a : App => (a.level01, a.level12, a.longPressTime, a.appState))
      (App.initialised ex1 [(1, 50), (3, 4), (4, 6)] true) = (4, 6, 1000, .setupInit) := by decide

/-- A3: both branches of Init in one tick. -/
theorem test_appTick_homing_at_top :
    (fun t : State => (t.eng.nextCmd, t.app.initFirst, t.app.current, t.app.appState))
      (appTick ex1 (base.withPins topClosed)) = (.stop, false, .floor2, .idle) := by decide

/-- W2: a jog and a commit in one tick. -/
theorem test_appTick_jog_and_commit :
    (fun t : State => (t.eng.nextCmd, t.store, t.app.level12, t.app.awaitRelease, t.app.appState))
      (appTick ex1 ((inApp .setupFloor21 both true).withApp
        { (inApp .setupFloor21 both true).app with setupSteps := 400 })) =
      (.driveDown, [(4, 500)], 500, true, .setupFloor21) := by decide

/-- B1, B2. -/
theorem test_button_events :
    (out (exec .btnPostShort base)).map (·.btn) = some short ∧
    (out (exec .btnPostLong base)).map (·.btn) = some long ∧
    (out (exec .btnPostLongRep (base.withBtn { both with btnLongRep := false }))).map (·.btn) =
      some both := by decide

/-! ### Witnesses: encoding and presentation -/

/-- Hypothesis of DecodeEncodeRoundTrip, at both ends of the reserved codes. -/
theorem witness_roundTrip :
    (Instr.engRequest (.reserved 5) 0).wellFormed = true ∧
    (Instr.engRequest (.reserved 7) 0xFFFFFFFF).wellFormed = true := by decide

/-- Hypotheses of UnusedFieldsIgnored. -/
theorem witness_unusedFields :
    decodeCommand 0x70ABCD04B0 = .ok (.engSetRampStart 1200) ∧
    (0x70ABCD04B0 : CommandWord) &&& usedBits (.engSetRampStart 1200) =
      0x77000004B0 &&& usedBits (.engSetRampStart 1200) := ⟨rfl, rfl⟩

/-- The presentation of a command word alone, of nothing, of events and a command. -/
def commandOnly (cw : CommandWord) : Presentation := { ev := 0, cw := some cw, pins := base.pins }

def nothing : Presentation := { ev := 0, cw := none, pins := base.pins }

def eventsAndCommand : Presentation := { ev := 0b1001, cw := some 0x5000000000, pins := base.pins }

/-- Hypotheses of the clauses of ReservedEncodingsAreNoOps: op 0x0, 0xB, 0xF, rsv 1; no word. -/
theorem witness_reserved :
    (base.withPort [.present (commandOnly 0)]).port = .present (commandOnly 0) :: [] ∧
    (commandOnly 0).ev = 0 ∧
    (0x0000000000 : CommandWord).toNat / 2 ^ 36 = 0 ∧
    11 ≤ (0xB000000000 : CommandWord).toNat / 2 ^ 36 ∧
    11 ≤ (0xFFFFFFFFFF : CommandWord).toNat / 2 ^ 36 ∧
    (0x3B00000005 : CommandWord).getLsbD 35 = true ∧
    nothing.ev = 0 ∧ nothing.cw = none := by decide

/-- Hypotheses of the clauses of StepRunsDecodedInstruction. -/
theorem witness_stepRuns :
    (base.withPort [.present (commandOnly 0x5000000000)]).port =
      .present (commandOnly 0x5000000000) :: [] ∧
    (commandOnly 0x5000000000).cw = some 0x5000000000 ∧
    decodeCommand 0x5000000000 = .ok .engTick ∧
    decodeEvent eventsAndCommand.ev = some (.pulse, 0b0001) ∧
    decodeTableWord 40 0x5000000000 = some .engTick ∧
    decodeTableWord 8 4 = some .btnPostLongRep := ⟨rfl, rfl, rfl, rfl, rfl, rfl⟩

/-- Hypotheses of EventsCommute. -/
theorem witness_eventsCommute :
    Instr.pulse ∈ [Instr.pulse, .btnPostShort, .btnPostLong, .btnPostLongRep] ∧
    Instr.btnPostLongRep ∈ [Instr.pulse, .btnPostShort, .btnPostLong, .btnPostLongRep] := by decide

/-- Hypothesis of PowerOnForcesSafeOutputs, in the middle of a motion. -/
theorem witness_powerOn :
    ((withE (running .rampUp)).withPort [.powerOn]).port = .powerOn :: [] := rfl

/-- Hypotheses of OperationsBeforeInitialisation: both bits clear, and only the second clear. -/
theorem witness_beforeInit :
    State.reset.eng.engInit = false ∧ State.reset.app.appInit = false ∧
    (base.withApp App.reset).app.appInit = false := ⟨rfl, rfl, rfl⟩

/-! ### Witnesses: engine operations and tick -/

/-- The hypothesis of the statements that ask for an initialised engine alone. -/
theorem witness_engineReady : base.eng.engInit = true := rfl

/-- Hypotheses of ShutdownStrandsTheMotion, in both ramp states. -/
theorem witness_shutdownStrands :
    (running .rampUp).engInit = true ∧ (running .rampUp).nextState = (running .rampUp).state ∧
    (running .rampUp).state = .rampUp ∧ (running .rampStable).state = .rampStable ∧
    (running .rampUp).count < (running .rampUp).target ∧ seenCmd (running .rampUp) ≠ .stop ∧
    (∀ i ∈ [Instr.pulse, .engTick, .pulse], i = .pulse ∨ i = .engTick) := by decide

/-- Hypotheses of FastStopThenTick, TickInIdleOrArrived, TickInFaultOrReservedCode and
MotionStateTransitions: a committed state, each of the codes. -/
theorem witness_committedStates :
    (∀ m ∈ [MotionState.idle, .rampStart, .rampUp, .rampStable, .arrived, .fault,
      .faultInvalidDirection, .reserved7],
      (engIn m).engInit = true ∧ (engIn m).nextState = (engIn m).state ∧ (engIn m).state = m) := by
  decide

/-- Hypotheses of TickInRampStartInvalid: Stop, Arrived and None as the command. -/
theorem witness_rampStartInvalid :
    (∀ c ∈ [MotionCommand.none, .stop, .arrived],
      ({ engIn .rampStart with activeCmd := c } : Engine).state = .rampStart ∧
      seenCmd { engIn .rampStart with activeCmd := c } ≠ .driveUp ∧
      seenCmd { engIn .rampStart with activeCmd := c } ≠ .driveDown) := by decide

/-- Hypotheses of TickInRampStartDrive: T15 (the active command), T16 (the staged one). -/
theorem witness_rampStartDrive :
    seenCmd { engIn .rampStart with activeCmd := .driveUp } = .driveUp ∧
    seenCmd { engIn .rampStart with activeCmd := .driveUp, nextCmd := .driveDown } =
      .driveDown := by decide

/-- Hypotheses of TickInRampUp and TickInRampStable, with an input for each branch: Stop, the
target reached exactly, the stable request one pulse before it. -/
theorem witness_ramp :
    seenCmd { running .rampUp with nextCmd := .stop } = .stop ∧
    ({ running .rampUp with count := 5 } : Engine).count ≥ (running .rampUp).target ∧
    ¬({ running .rampUp with count := 4, stableReq := true } : Engine).count ≥
      (running .rampUp).target ∧
    (running .rampStable).nextState = (running .rampStable).state := by decide

/-- Hypotheses of the clause of MotionStateTransitions about other operations, of
InterruptFieldsHaveNamedWriters, OperationsKeepToTheirRecord and EngineBlindToApplication. -/
theorem witness_otherOperation :
    Instr.engFastStop ≠ .engTick ∧ Instr.engFastStop ≠ .engInit ∧ Instr.engFastStop ≠ .pulse ∧
    Instr.engFastStop ≠ .appTick ∧ (base.withStore [(9, 9)]).eng = base.eng ∧
    exec .engFastStop base = .next (base.withEng base.eng.fastStop) :=
  ⟨nofun, nofun, nofun, nofun, rfl, rfl⟩

/-- Hypotheses of FaultHoldsUntilEngInit. -/
theorem witness_faultHolds :
    (engIn .fault).state = .fault ∧ (engIn .fault).nextState = (engIn .fault).state ∧
    Instr.engInit ∉ [Instr.engRequest (.command .driveUp) 3, .engTick, .pulse] ∧
    ∃ t, run [.engRequest (.command .driveUp) 3, .engTick, .pulse] (withE (engIn .fault)) =
      .next t := ⟨rfl, rfl, by decide, _, rfl⟩

/-- Hypotheses of FaultEntryIsPrecise, for each of the two fault states. -/
theorem witness_faultEntry :
    (outE (exec .engTick (withE (engIn .rampStart)))).map (·.state) =
      some .faultInvalidDirection ∧
    (outE (exec .engTick (withE (engIn .reserved7)))).map (·.state) = some .fault ∧
    (engIn .rampStart).nextState = (engIn .rampStart).state ∧
    (engIn .rampStart).state ≠ .fault ∧
    (engIn .rampStart).state ≠ .faultInvalidDirection := by decide

/-! ### Witnesses: the pulse -/

/-- Hypotheses of the clauses of PulseStepsAndRamps: the gate closed at the target, open one before
it; the period one decrement away, less than one, and at the cruise period. -/
theorem witness_pulse :
    ¬({ running .rampUp with count := 5 } : Engine).count < (running .rampUp).target ∧
    ({ running .rampUp with count := 4 } : Engine).count < (running .rampUp).target ∧
    (running .rampUp).pulseEn = true ∧
    ({ running .rampUp with currentPeriod := 600 } : Engine).nextPeriod = 400 ∧
    ({ running .rampUp with currentPeriod := 601 } : Engine).nextPeriod = 401 ∧
    ({ running .rampUp with currentPeriod := 400 } : Engine).nextPeriod = 400 := by decide

/-- Hypotheses of RampIsMonotone: above the cruise period and at it. -/
theorem witness_monotone :
    (running .rampUp).count < (running .rampUp).target ∧
    (running .rampUp).maxPeriod ≤ (running .rampUp).currentPeriod ∧
    1 ≤ (running .rampUp).stepDecrement ∧
    (running .rampUp).currentPeriod > (running .rampUp).maxPeriod ∧
    ({ running .rampStable with currentPeriod := 400 } : Engine).currentPeriod =
      (running .rampStable).maxPeriod := by decide

/-- Hypotheses of PulsesOfARamp, with k = 3, all the pulses the target leaves (Q1: the third
pulse makes the request). -/
theorem witness_pulsesOfARamp :
    (running .rampUp).pulseEn = true ∧ (running .rampUp).stableReq = false ∧
    (running .rampUp).currentPeriod = (running .rampUp).minPeriod ∧
    (running .rampUp).maxPeriod ≤ (running .rampUp).minPeriod ∧
    1 ≤ (running .rampUp).stepDecrement ∧
    (running .rampUp).count.toNat + 3 ≤ (running .rampUp).target.toNat := by decide

/-- Hypotheses of MotionArrivesAfterExactlyItsPulses, in Idle and in Arrived. -/
theorem witness_motion :
    (engIn .idle).engInit = true ∧ (engIn .idle).nextState = (engIn .idle).state ∧
    (engIn .arrived).nextState = (engIn .arrived).state ∧ (engIn .arrived).state = .arrived ∧
    (MotionCommand.driveDown = .driveUp ∨ MotionCommand.driveDown = .driveDown) := by decide

/-! ### Witnesses: the store -/

/-- Hypotheses of the clauses of NVReadFallsBackToDefault: absent, just outside each bound, at each
bound (M1 to M3c). -/
theorem witness_nvRead :
    Memory.read [] 4 = none ∧ Memory.read [(4, 0)] 4 = some 0 ∧ (0 : Cal) < 1 ∧
    Memory.read [(4, 60001)] 4 = some 60001 ∧ (60001 : Cal) > 60000 ∧
    Memory.read [(4, 1)] 4 = some 1 ∧ (1 : Cal) ≤ 1 ∧
    Memory.read [(4, 60000)] 4 = some 60000 ∧ (60000 : Cal) ≤ 60000 := by decide

/-- Hypotheses of CalibrationRoundTrip, at both bounds of the configured range. -/
theorem witness_roundTripCalibration :
    Config.params.level12.lo ≤ Config.params.level12.lo ∧
    Config.params.level12.lo ≤ Config.params.level12.hi :=
  ⟨BitVec.le_refl _,
    BitVec.le_trans Config.params.level12.lo_le_dflt Config.params.level12.dflt_le_hi⟩

/-- Hypotheses of OnlyWizardCommitsWriteTheStore: each of the two commits into an empty store. -/
theorem witness_commit21 :
    exec .appTick (inApp .setupFloor21 long true) =
      .next (appTick Config.params (inApp .setupFloor21 long true)) ∧
    (appTick Config.params (inApp .setupFloor21 long true)).store.read Config.params.level12.key ≠
      (inApp .setupFloor21 long true).store.read Config.params.level12.key := by
  refine ⟨rfl, ?_⟩
  have h : (appTick Config.params (inApp .setupFloor21 long true)).store =
      [(Config.params.level12.key, 0)] := rfl
  rw [h]
  simp [Memory.read, inApp]

theorem witness_commit10 :
    exec .appTick (inApp .setupFloor10 long true) =
      .next (appTick Config.params (inApp .setupFloor10 long true)) ∧
    (appTick Config.params (inApp .setupFloor10 long true)).store.read Config.params.level01.key ≠
      (inApp .setupFloor10 long true).store.read Config.params.level01.key := by
  refine ⟨rfl, ?_⟩
  have h : (appTick Config.params (inApp .setupFloor10 long true)).store =
      [(Config.params.level01.key, 0)] := rfl
  rw [h]
  simp [Memory.read, inApp]

/-! ### Witnesses: the application -/

/-- Hypotheses of the statements about APP.TICK in one state: an initialised machine in each of the
eight codes, its state committed; the inputs and flags of every clause are free fields. -/
theorem witness_appStates (a : AppState) (b : Buttons) (mode : Bool) :
    Ready (inApp a b mode) ∧ (inApp a b mode).app.appState = a ∧
    (inApp a b mode).app.appNextState = (inApp a b mode).app.appState ∧
    (inApp a b mode).btn = b ∧ (inApp a b mode).app.awaitRelease = false :=
  ⟨⟨rfl, rfl⟩, rfl, rfl, rfl, rfl⟩

/-- AppTickInIdle with and without a short press: A5 and A17. -/
theorem witness_idle :
    (inApp .idle short false).btn.btnShort = true ∧
    (inApp .idle { noFlags with btnLongRep := true } false).btn.btnShort = false ∧
    (inApp .idle short false).app.current = .floor2 := by decide

/-- Hypotheses of AppTickJogs: W1. -/
theorem witness_jogs :
    isSetupFloor (inApp .setupFloor21 short true).app.appState ∧
    isSetupFloor (inApp .setupFloor10 short true).app.appState ∧
    (inApp .setupFloor21 short true).btn.btnLong = false := ⟨.inl rfl, .inr rfl, rfl⟩

/-- Hypotheses of AppTickCommitsFloor21 and AppTickCommitsFloor10: W3 and W7. -/
theorem witness_commits :
    (inApp .setupFloor21 long false).btn.btnLong = true ∧
    (inApp .setupFloor10 both false).btn.btnLong = true ∧
    ∃ m, m = nvWrite (inApp .setupFloor21 long false).store Config.params.level12.key
      (accumulatedSteps (inApp .setupFloor21 long false)) := ⟨rfl, rfl, _, rfl⟩

/-- Hypotheses of AppTickAwaitsRelease: W4. -/
theorem witness_awaits :
    Ready ((inApp .setupFloor21 short true).withApp
      { (inApp .setupFloor21 short true).app with awaitRelease := true }) ∧
    isSetupFloor AppState.setupFloor21 := ⟨⟨rfl, rfl⟩, .inl rfl⟩

/-- Hypothesis of AppTickReachesEngineByCommandsOnly. -/
theorem witness_appTick_next :
    exec .appTick (inApp .idle short false) =
      .next (appTick Config.params (inApp .idle short false)) := rfl

/-- Hypotheses of WizardStoresTheJogs. -/
theorem witness_wizard :
    Ready (inApp .setupFloor21 noFlags false) ∧
    (inApp .setupFloor21 noFlags false).app.setupSteps = 0 ∧
    (inApp .setupFloor21 noFlags false).btn = noFlags := ⟨⟨rfl, rfl⟩, rfl, rfl⟩

/-! ### Witnesses: the invariant -/

/-- The initialised machine of the real configuration. -/
def started : State where
  eng := Engine.initialised Config.params
  app := App.initialised Config.params [] false
  btn := noFlags
  store := []
  pins := base.pins
  rdata := 0
  port := []
  freeCount := 0

/-- The invariant holds on an initialised machine, where both of its engine and application parts
say something, and the machine steps. -/
theorem witness_inv : Inv started ∧ step started = .next (started.releaseRdata) := by
  refine ⟨⟨fun _ => ?_, nofun, fun _ => ?_, nofun, List.Pairwise.nil, nofun⟩, rfl⟩
  · exact
      { committed := rfl
        notReserved := nofun
        count_le_target := BitVec.le_refl _
        cruise_le_current := Config.params.rampEnd_le_start
        current_le_start := BitVec.le_refl _
        decrement := rfl
        microstep := rfl
        request_at_cruise := nofun
        stable_at_cruise := nofun
        driver_running := nofun
        pulse_driven := nofun
        driver_awake := nofun
        not_in_reset := rfl
        active_steps := fun _ => rfl
        next_steps := fun _ => rfl }
  · exact
      { committed := rfl
        notReserved := nofun
        floors := .head _
        first := fun _ => .inl rfl
        awaiting := nofun
        accumulated := fun h => absurd rfl h
        led := ⟨nofun, nofun⟩
        level01 := loadCal_mem_range _ _
        level12 := loadCal_mem_range _ _
        longPress := loadCal_mem_range _ _
        powerOff := loadCal_mem_range _ _
        floor2To := loadCal_mem_range _ _ }

/-- Hypothesis of NothingRefusedOnceReady. -/
theorem witness_ready : Ready started := ⟨rfl, rfl⟩

end Sys2Proof.Tests
end

section
/-! PROOFS. The machine's invariant: what each operation does to the engine's and to the
application's part of it, the tick of the application as a staged move that the commit completes,
and from these the step lemma. -/

namespace Sys2Proof.Safety

open Sys2Proof.Machine

/-! ### The engine's part -/

/-- The clamp keeps the cruise period at or below the start period (40 R154 a). -/
theorem lesser_le_right (a b : Period) : lesser a b ≤ b := by
  unfold lesser
  split
  case isTrue hab => exact hab
  case isFalse => exact BitVec.le_refl _

/-- At the cruise period the ramp is over: a pulse keeps the period (42 R203). -/
theorem nextPeriod_at_cruise {e : Engine} (h : e.currentPeriod = e.maxPeriod) :
    e.nextPeriod = e.maxPeriod := by
  simp [Engine.nextPeriod, h]

/-- The engine's commit moves nothing where the staged state is the committed one (10 R24). -/
theorem engineCommit_eq_self {e : Engine} (h : e.nextState = e.state) : e.commit = e := by
  cases e
  cases h
  rfl

namespace EngineInv

variable {e : Engine}

theorem initialised : EngineInv (Engine.initialised Config.params) where
  committed := rfl
  notReserved := nofun
  count_le_target := BitVec.le_refl _
  cruise_le_current := Config.params.rampEnd_le_start
  current_le_start := BitVec.le_refl _
  decrement := rfl
  microstep := rfl
  request_at_cruise := nofun
  stable_at_cruise := nofun
  driver_running := nofun
  pulse_driven := nofun
  driver_awake := nofun
  not_in_reset := rfl
  active_steps := fun _ => rfl
  next_steps := fun _ => rfl

theorem shutdown (h : EngineInv e) : EngineInv e.shutdown :=
  { h with driver_running := nofun, pulse_driven := nofun, driver_awake := nofun }

theorem setRampStart (h : EngineInv e) (p : Period) : EngineInv { e with cfgStart := p } :=
  { h with }

theorem setRampEnd (h : EngineInv e) (p : Period) : EngineInv { e with cfgEnd := p } :=
  { h with }

theorem request (h : EngineInv e) (c : MotionCommand) (n : Steps) :
    EngineInv (e.request c n) := by
  rw [Engine.request_eq]
  refine { h with count_le_target := ?_, next_steps := ?_ }
  · by_cases hc : c = .stop
    · simp [hc]
    · simpa [hc] using h.count_le_target
  · intro hc
    exact if_neg (Bool.eq_false_iff.mp hc)

/-- A fast stop is a staged Stop with the interrupt disabled (40 R148). -/
theorem fastStop (h : EngineInv e) : EngineInv e.fastStop :=
  { h.request .stop 0 with pulse_driven := nofun }

theorem pickedUp (h : EngineInv e) : EngineInv (pickedUp e) := by
  refine { h with active_steps := ?_, next_steps := ?_ }
  · show (seenCmd e).isDrive = false → seenSteps e = 0
    unfold seenCmd seenSteps
    split
    · exact h.active_steps
    · exact h.next_steps
  · intro _
    show (if e.nextCmd = .none then e.nextSteps else 0) = 0
    split
    case isTrue hn => exact h.next_steps (by rw [hn]; rfl)
    case isFalse => rfl

theorem commit (h : EngineInv e) : EngineInv e.commit := by
  rwa [engineCommit_eq_self h.committed]

theorem disable (h : EngineInv e) : EngineInv e.disable :=
  { h with driver_running := nofun, pulse_driven := nofun, driver_awake := nofun }

/-- A tick that disables the pulse hardware may enter every state that needs no pulses. -/
theorem disable_enter (h : EngineInv e) {q : MotionState} (hr : q ≠ .reserved7)
    (hs : q ≠ .rampStable) : EngineInv ({ e.disable with nextState := q } : Engine).commit :=
  { h.disable with
    committed := rfl
    notReserved := hr
    stable_at_cruise := fun hq => absurd hq hs
    driver_running := nofun }

theorem idleHandler (h : EngineInv e) : EngineInv e.idleHandler.commit := by
  unfold Engine.idleHandler
  split
  · exact h.disable_enter nofun nofun
  · exact h.disable.commit

theorem startRamp (h : EngineInv e) : EngineInv e.startRamp.commit :=
  { h with
    committed := rfl
    notReserved := nofun
    count_le_target := show 0 ≤ e.activeSteps by bv_omega
    cruise_le_current := lesser_le_right _ _
    current_le_start := BitVec.le_refl _
    request_at_cruise := nofun
    stable_at_cruise := nofun
    driver_running := fun _ => .inl rfl
    pulse_driven := fun _ => rfl
    driver_awake := fun _ => rfl
    active_steps := fun _ => rfl }

theorem rampStartHandler (h : EngineInv e) : EngineInv e.rampStartHandler.commit := by
  unfold Engine.rampStartHandler
  split
  · exact h.startRamp
  · exact h.disable_enter nofun nofun

/-- Consuming the stable request: it was made at the cruise period, so RampStable runs there. -/
theorem enterStable (h : EngineInv e) (hr : e.stableReq = true) :
    EngineInv ({ e with nextState := .rampStable, stableReq := false } : Engine).commit :=
  { h with
    committed := rfl
    notReserved := nofun
    request_at_cruise := nofun
    stable_at_cruise := fun _ => h.request_at_cruise hr
    driver_running := fun _ => .inr rfl }

theorem rampUpHandler (h : EngineInv e) : EngineInv e.rampUpHandler.commit := by
  unfold Engine.rampUpHandler
  split_ifs with _ _ hr
  · exact h.disable_enter nofun nofun
  · exact h.disable_enter nofun nofun
  · exact h.enterStable hr
  · exact h.commit

theorem rampStableHandler (h : EngineInv e) : EngineInv e.rampStableHandler.commit := by
  unfold Engine.rampStableHandler
  split_ifs
  · exact h.disable_enter nofun nofun
  · exact h.disable_enter nofun nofun
  · exact h.commit

theorem handler (h : EngineInv e) : EngineInv e.handler.commit := by
  unfold Engine.handler
  cases e.state with
  | idle => exact h.idleHandler
  | arrived => exact h.idleHandler
  | rampStart => exact h.rampStartHandler
  | rampUp => exact h.rampUpHandler
  | rampStable => exact h.rampStableHandler
  | fault => exact h.disable.commit
  | faultInvalidDirection => exact h.disable.commit
  | reserved7 => exact h.disable_enter nofun nofun

theorem tick (h : EngineInv e) : EngineInv e.tick := by
  unfold Engine.tick
  rw [Engine.pickup_eq]
  exact h.pickedUp.handler

/-- A pulse of an open gate: the counter stays within the target, the period between cruise and
start. -/
theorem pulse_of_open (h : EngineInv e) (hg : e.pulseGate = true) : EngineInv e.pulse := by
  obtain ⟨-, -, hlt⟩ := e.pulseGate_iff.mp hg
  obtain ⟨hlo, hhi⟩ := e.nextPeriod_bounds h.cruise_le_current
  rw [Engine.pulse_of_open e hg]
  by_cases hs : e.state = .rampUp
  · simp only [hs, if_true, true_and]
    refine { h with
      committed := h.committed.trans hs
      notReserved := nofun
      count_le_target := by bv_omega
      cruise_le_current := hlo
      current_le_start := BitVec.le_trans hhi h.current_le_start
      request_at_cruise := ?_
      stable_at_cruise := nofun
      driver_running := fun _ => .inl rfl }
    intro hr
    rcases (Bool.or_eq_true _ _).mp hr with hr | hr
    · exact nextPeriod_at_cruise (h.request_at_cruise hr)
    · exact of_decide_eq_true hr
  · simp only [hs, if_false, false_and, decide_false, Bool.or_false]
    exact { h with count_le_target := by bv_omega }

theorem pulse (h : EngineInv e) : EngineInv e.pulse := by
  cases hg : e.pulseGate
  · rwa [Engine.pulse_of_gated e hg]
  · exact h.pulse_of_open hg

end EngineInv

theorem EngineOff.reset : EngineOff Engine.reset := ⟨rfl, rfl, rfl, rfl, rfl⟩

/-! ### The application's part -/

/-- The application's commit moves nothing where the staged state is the committed one (10 R48). -/
theorem appCommit_eq_self {a : App} (h : a.appNextState = a.appState) : a.commit = a := by
  cases a
  cases h
  rfl

namespace AppInv

variable {a : App}

theorem initialised (m : Memory) (mode : Bool) : AppInv (App.initialised Config.params m mode) where
  committed := rfl
  notReserved := by cases mode <;> nofun
  floors := .head _
  first := by cases mode <;> simp [App.initialised]
  awaiting := nofun
  accumulated := fun hs => absurd rfl hs
  led := by cases mode <;> simp [App.initialised, isDriving]
  level01 := loadCal_mem_range _ _
  level12 := loadCal_mem_range _ _
  longPress := loadCal_mem_range _ _
  powerOff := loadCal_mem_range _ _
  floor2To := loadCal_mem_range _ _

/-- Outside the two entry states the first-entry flag is clear (10 R51). -/
theorem initFirst_eq (h : AppInv a) (hi : a.appState ≠ .init) (hs : a.appState ≠ .setupInit) :
    a.initFirst = false :=
  Bool.eq_false_iff.mpr fun hf => (h.first hf).elim hi hs

/-- Outside the jog states no release is awaited (10 R52). -/
theorem awaitRelease_eq (h : AppInv a) (hq : ¬isSetupFloor a.appState) : a.awaitRelease = false :=
  Bool.eq_false_iff.mpr fun hw => hq (h.awaiting hw)

/-- Outside the jog states the accumulator is 0 (10 R53). -/
theorem setupSteps_eq (h : AppInv a) (hq : ¬isSetupFloor a.appState) : a.setupSteps = 0 :=
  not_not.mp fun hs => hq (h.accumulated hs)

/-- Outside the driving states the indicator is off (10 R59). -/
theorem ledMoving_eq (h : AppInv a) (hq : ¬isDriving a.appState) : a.ledMoving = false :=
  Bool.eq_false_iff.mpr fun hl => hq (h.led.mp hl)

theorem clearFirst (h : AppInv a) : AppInv { a with initFirst := false } :=
  { h with first := nofun }

theorem clearSteps (h : AppInv a) : AppInv { a with setupSteps := 0 } :=
  { h with accumulated := fun hs => absurd rfl hs }

theorem clearAwait (h : AppInv a) : AppInv { a with awaitRelease := false } :=
  { h with awaiting := nofun }

theorem setFloors (h : AppInv a) {f l : Floor} (hfl : (f, l) ∈ floorPairs) :
    AppInv { a with current := f, last := l } :=
  { h with floors := hfl }

/-- A new state, with the indicator it asks for, while the registers bound to one state are
clear. -/
theorem moveTo (h : AppInv a) {q : AppState} {led : Bool} (hr : q ≠ .reserved7)
    (hl : led = true ↔ isDriving q) (hf : a.initFirst = false) (hw : a.awaitRelease = false)
    (hs : a.setupSteps = 0) : AppInv (movedTo { a with ledMoving := led } q) :=
  { h with
    committed := rfl
    notReserved := hr
    first := fun hc => absurd (hf.symm.trans hc) nofun
    awaiting := fun hc => absurd (hw.symm.trans hc) nofun
    accumulated := fun hc => absurd hs hc
    led := hl }

end AppInv

/-- A row of the floor table leads to a driving state and to a reachable floor pair (43 R223). -/
theorem floorMove_target {a : App} {m : FloorMove} (h : floorMove a = some m) :
    isDriving m.next ∧ (m.current, m.last) ∈ floorPairs := by
  unfold floorMove at h
  split at h <;> cases h <;> simp [isDriving, floorPairs]

/-! ### The machine -/

/-- The invariant speaks of the engine, the application and the store only. -/
theorem Inv.of_same {s t : State} (h : Inv s) (he : t.eng = s.eng) (ha : t.app = s.app)
    (hm : t.store = s.store) : Inv t where
  engineReady := he ▸ h.engineReady
  engineOff := he ▸ h.engineOff
  appReady := ha ▸ h.appReady
  appOff := ha ▸ h.appOff
  store := hm ▸ h.store
  keys := hm ▸ h.keys

theorem Inv.withEng {s : State} (h : Inv s) {e : Engine} (he : EngineInv e)
    (hi : e.engInit = true) : Inv (s.withEng e) :=
  { h with
    engineReady := fun _ => he
    engineOff := fun ho => absurd (hi.symm.trans ho) nofun }

theorem Inv.withApp {s : State} (h : Inv s) {a : App} (ha : AppInv a) (hi : a.appInit = true) :
    Inv (s.withApp a) :=
  { h with
    appReady := fun _ => ha
    appOff := fun ho => absurd (hi.symm.trans ho) nofun }

theorem Inv.nvWrite {s : State} (h : Inv s) {k : Nat} (hk : k < 2 ^ Config.params.keyW) (v : Cal) :
    Inv (s.withStore (nvWrite s.store k v)) := by
  refine { h with store := nvWrite_wf _ _ _ h.store, keys := ?_ }
  intro x hx
  rcases (Memory.mem_keys_write s.store k v x).mp hx with rfl | hx
  · exact hk
  · exact h.keys x hx

/-- The registers after power-on satisfy the invariant over every store that does. -/
theorem Inv.of_reset {s : State} (he : s.eng = Engine.reset) (ha : s.app = App.reset)
    (hm : s.store.wf) (hk : ∀ k ∈ s.store.map Prod.fst, k < 2 ^ Config.params.keyW) :
    Inv s where
  engineReady := by rw [he]; nofun
  engineOff := fun _ => he ▸ EngineOff.reset
  appReady := by rw [ha]; nofun
  appOff := fun _ => by rw [ha]; rfl
  store := hm
  keys := hk

/-- An engine operation keeps the invariant if it keeps the engine's part and the initialised
bit. -/
theorem Inv.engineOp {s t : State} (h : Inv s) {f : Engine → Engine}
    (hx : engineOp f s = .next t) (hf : EngineInv s.eng → EngineInv (f s.eng))
    (hi : (f s.eng).engInit = s.eng.engInit) : Inv t := by
  obtain ⟨hon, rfl⟩ := engineOp_eq_next.mp hx
  exact h.withEng (hf (h.engineReady hon)) (hi.trans hon)

/-- A pulse before ENG.INIT is gated (42 R200). -/
theorem Inv.pulse {s : State} (h : Inv s) : Inv (s.withEng s.eng.pulse) := by
  cases hi : s.eng.engInit with
  | false =>
    rw [Engine.pulse_of_gated s.eng (by simp [Engine.pulseGate, hi])]
    exact h
  | true =>
    have hp : s.eng.pulse.engInit = true := by rw [Engine.pulse_frame]; exact hi
    exact h.withEng (h.engineReady hi).pulse hp

/-! ### The tick of the application -/

/-- An initialised machine with the invariant: where APP.TICK runs. -/
structure Running (s : State) : Prop where
  inv : Inv s
  ready : Ready s

/-- Committing the application's staged state gives a running machine: what a handler of APP.TICK
has to reach (43 R217). -/
def Staged (s : State) : Prop := Running (s.withApp s.app.commit)

namespace Running

variable {s : State}

theorem appInv (h : Running s) : AppInv s.app := h.inv.appReady h.ready.2

theorem withEng (h : Running s) {e : Engine} (he : EngineInv e) (hi : e.engInit = true) :
    Running (s.withEng e) :=
  ⟨h.inv.withEng he hi, hi, h.ready.2⟩

theorem withApp (h : Running s) {a : App} (ha : AppInv a) (hi : a.appInit = true) :
    Running (s.withApp a) :=
  ⟨h.inv.withApp ha hi, h.ready.1, hi⟩

theorem withBtn (h : Running s) (b : Buttons) : Running (s.withBtn b) :=
  ⟨h.inv.of_same rfl rfl rfl, h.ready⟩

theorem request (h : Running s) (c : MotionCommand) (n : Steps) : Running (s.request c n) :=
  h.withEng ((h.inv.engineReady h.ready.1).request c n) (by rw [Engine.request_eq]; exact h.ready.1)

theorem fastStop (h : Running s) : Running s.fastStop :=
  h.withEng (h.inv.engineReady h.ready.1).fastStop h.ready.1

theorem nvWrite (h : Running s) {k : Nat} (hk : k < 2 ^ Config.params.keyW) (v : Cal) :
    Running (s.withStore (nvWrite s.store k v)) :=
  ⟨h.inv.nvWrite hk v, h.ready⟩

/-- A handler that moves nothing. -/
theorem staged (h : Running s) : Staged s := by
  rw [Staged, appCommit_eq_self h.appInv.committed]
  exact h

/-- A handler whose last write is to the application's registers. -/
theorem stage (h : Running s) {a : App} (ha : AppInv a.commit) (hi : a.appInit = true) :
    Staged (s.withApp a) :=
  h.withApp ha hi

end Running

theorem Staged.withBtn {s : State} (h : Staged s) (b : Buttons) : Staged (s.withBtn b) :=
  Running.withBtn h b

section Handlers

variable {s : State}

/-! #### Normal mode -/

theorem homingRequest_app (c : Config) (s : State) :
    (homingRequest c s).app = { s.app with initFirst := false } := by
  rw [homingRequest_eq]

theorem Running.homingRequest (h : Running s) (c : Config) : Running (homingRequest c s) := by
  unfold Machine.homingRequest
  split
  · exact (h.request _ _).withApp h.appInv.clearFirst h.ready.2
  · exact h

theorem Running.initHandler (h : Running s) (hq : s.app.appState = .init) (c : Config) :
    Staged (initHandler c s) := by
  have h1 := h.homingRequest c
  have ha := homingRequest_app c s
  unfold Machine.initHandler
  generalize Machine.homingRequest c s = u at h1 ha ⊢
  have hu : u.app.appState = .init := by rw [ha]; exact hq
  have hset : ¬isSetupFloor u.app.appState := by simp [hu, isSetupFloor]
  have hled := h1.appInv.ledMoving_eq (by simp [hu, isDriving])
  have hidle : u.app.ledMoving = true ↔ isDriving .idle := by simp [hled, isDriving]
  dsimp only
  split
  · exact h1.fastStop.stage
      ((h1.appInv.setFloors (by decide)).moveTo nofun hidle (by rw [ha])
        (h1.appInv.awaitRelease_eq hset) (h1.appInv.setupSteps_eq hset)) h1.ready.2
  · exact h1.staged

/-- The floor table in Idle, whatever its row (43 R223). -/
theorem Running.applyFloorTable (h : Running s) (hq : s.app.appState = .idle) :
    Staged (applyFloorTable s) := by
  unfold Machine.applyFloorTable
  split
  case h_1 => exact h.staged
  case h_2 m hm =>
    obtain ⟨hd, hfl⟩ := floorMove_target hm
    have hset : ¬isSetupFloor s.app.appState := by simp [hq, isSetupFloor]
    have hr : m.next ≠ .reserved7 := by rcases hd with hd | hd <;> simp [hd]
    exact (h.request _ _).stage
      ((h.appInv.setFloors hfl).moveTo hr (by simp [hd])
        (h.appInv.initFirst_eq (by simp [hq]) (by simp [hq]))
        (h.appInv.awaitRelease_eq hset) (h.appInv.setupSteps_eq hset)) h.ready.2

theorem Running.idleHandler (h : Running s) (hq : s.app.appState = .idle) :
    Staged (idleHandler s) := by
  have hb := h.withBtn s.btn.takeShort.2.takeLong.2
  have hs : Staged (if s.btn.takeShort.1 then
      Machine.applyFloorTable (s.withBtn s.btn.takeShort.2.takeLong.2)
      else s.withBtn s.btn.takeShort.2.takeLong.2) := by
    split
    · exact hb.applyFloorTable hq
    · exact hb.staged
  unfold Machine.idleHandler
  dsimp only
  split
  · exact hs.withBtn _
  · exact hs

/-- Leaving a driving state, by arrival or at the limit. -/
theorem Running.endDriving (h : Running s) (hq : isDriving s.app.appState) :
    Staged (endDriving s) := by
  have hset : ¬isSetupFloor s.app.appState := by
    rcases hq with hq | hq <;> simp [hq, isSetupFloor]
  have hf : s.app.initFirst = false := by
    rcases hq with hq | hq <;> exact h.appInv.initFirst_eq (by simp [hq]) (by simp [hq])
  exact h.stage
    (h.appInv.moveTo nofun (by simp [isDriving]) hf
      (h.appInv.awaitRelease_eq hset) (h.appInv.setupSteps_eq hset)) h.ready.2

/-- The limit test ends the driving of the machine as it was before the Arrived test, because ending
it twice is ending it once. -/
theorem Running.drivingHandler (h : Running s) (hq : isDriving s.app.appState) (limit : Bool) :
    Staged (drivingHandler limit s) := by
  unfold Machine.drivingHandler
  by_cases ha : s.eng.state = .arrived <;> cases limit <;> simp only [ha, if_true, if_false]
  · exact h.endDriving hq
  · exact h.fastStop.endDriving hq
  · exact h.staged
  · exact h.fastStop.endDriving hq

/-! #### The setup wizard -/

theorem Running.setupInitHandler (h : Running s) (hq : s.app.appState = .setupInit) (c : Config) :
    Staged (setupInitHandler c s) := by
  have h1 := h.homingRequest c
  have ha := homingRequest_app c s
  unfold Machine.setupInitHandler
  generalize Machine.homingRequest c s = u at h1 ha ⊢
  have hu : u.app.appState = .setupInit := by rw [ha]; exact hq
  have hled := h1.appInv.ledMoving_eq (by simp [hu, isDriving])
  dsimp only
  split
  · exact h1.fastStop.stage
      (h1.appInv.clearSteps.moveTo nofun (by simp [hled, isDriving]) (by rw [ha])
        (h1.appInv.awaitRelease_eq (by simp [hu, isSetupFloor])) rfl) h1.ready.2
  · exact h1.staged

/-- A running machine in one of the two jog states. -/
structure Jogging (s : State) : Prop extends Running s where
  inJog : isSetupFloor s.app.appState

namespace Jogging

theorem withBtn (h : Jogging s) (b : Buttons) : Jogging (s.withBtn b) :=
  ⟨h.toRunning.withBtn b, h.inJog⟩

theorem jog (h : Jogging s) (c : Config) : Jogging (jog c s) :=
  ⟨(h.request _ _).withApp { h.appInv with accumulated := fun _ => h.inJog } h.ready.2, h.inJog⟩

theorem commitFloor21 (h : Jogging s) : Jogging (commitFloor21 Config.params s) := by
  have hk := Config.params.keys_in_range Config.params.level12.key (by simp)
  exact ⟨(h.nvWrite hk _).withApp
    { h.appInv with level12 := loadCal_mem_range _ _, awaiting := fun _ => h.inJog } h.ready.2,
    h.inJog⟩

theorem commitFloor10 (h : Jogging s) : Jogging (commitFloor10 Config.params s) := by
  have hk := Config.params.keys_in_range Config.params.level01.key (by simp)
  exact ⟨(h.nvWrite hk _).withApp
    { h.appInv with level01 := loadCal_mem_range _ _, awaiting := fun _ => h.inJog } h.ready.2,
    h.inJog⟩

theorem takePresses (h : Jogging s) (c : Config) {commit : State → State}
    (hc : ∀ u, Jogging u → Jogging (commit u)) : Jogging (takePresses c commit s) := by
  have hb := h.withBtn s.btn.takeShort.2.takeLong.2
  have hj : Jogging (if s.btn.takeShort.1 then
      Machine.jog c (s.withBtn s.btn.takeShort.2.takeLong.2)
      else s.withBtn s.btn.takeShort.2.takeLong.2) := by
    split
    · exact hb.jog c
    · exact hb
  unfold Machine.takePresses
  dsimp only
  split
  · exact hc _ hj
  · exact hj

/-- Leaving a jog state clears what belongs to it; only SetupFloor10 sets the first-entry flag, on
its way to Init (44 R256). -/
theorem releaseTest (h : Jogging s) : Staged (releaseTest s) := by
  have hled : s.app.ledMoving = false :=
    h.appInv.ledMoving_eq (by rcases h.inJog with hq | hq <;> simp [hq, isDriving])
  have hf : s.app.initFirst = false := by
    rcases h.inJog with hq | hq <;> exact h.appInv.initFirst_eq (by simp [hq]) (by simp [hq])
  have hmove {q : AppState} (hr : q ≠ .reserved7) (hd : ¬isDriving q) :
      AppInv (leftSetup s.app q) :=
    h.appInv.clearAwait.clearSteps.moveTo hr (by simp [hled, hd]) hf rfl rfl
  unfold Machine.releaseTest
  dsimp only
  split_ifs
  · exact h.staged
  · exact (h.toRunning.withBtn _).stage (hmove nofun (by simp [isDriving])) h.ready.2
  · have hinit := hmove (q := .init) nofun (by simp [isDriving])
    exact (h.toRunning.withBtn _).stage { hinit with first := fun _ => .inl rfl } h.ready.2

theorem setupFloorHandler (h : Jogging s) (c : Config) {commit : State → State}
    (hc : ∀ u, Jogging u → Jogging (commit u)) : Staged (setupFloorHandler c commit s) := by
  have hp : Jogging (if s.app.awaitRelease then s else Machine.takePresses c commit s) := by
    split
    · exact h
    · exact h.takePresses c hc
  unfold Machine.setupFloorHandler
  dsimp only
  generalize (if s.app.awaitRelease then s else Machine.takePresses c commit s) = u at hp ⊢
  split
  · exact hp.releaseTest
  · exact hp.staged

end Jogging

/-- Every handler reaches a state that the commit completes; the reserved code is excluded. -/
theorem Running.appHandler (h : Running s) : Staged (appHandler Config.params s) := by
  unfold Machine.appHandler
  cases hq : s.app.appState with
  | init => exact h.initHandler hq _
  | idle => exact h.idleHandler hq
  | drivingUp => exact h.drivingHandler (.inl hq) _
  | drivingDown => exact h.drivingHandler (.inr hq) _
  | setupInit => exact h.setupInitHandler hq _
  | setupFloor21 =>
    exact Jogging.setupFloorHandler ⟨h, .inl hq⟩ _ fun _ => Jogging.commitFloor21
  | setupFloor10 =>
    exact Jogging.setupFloorHandler ⟨h, .inr hq⟩ _ fun _ => Jogging.commitFloor10
  | reserved7 => exact absurd hq h.appInv.notReserved

theorem Running.appTick (h : Running s) : Running (appTick Config.params s) := h.appHandler

end Handlers

/-! ### Every operation and every step -/

/-- Every operation and event that answers a next state keeps the invariant. -/
theorem Inv.exec {i : Instr} {s t : State} (h : Inv s) (hx : exec i s = .next t) : Inv t := by
  cases i with
  | engInit =>
    cases hx
    exact h.withEng EngineInv.initialised rfl
  | engShutdown => exact h.engineOp hx EngineInv.shutdown rfl
  | engRequest cmd steps =>
    cases cmd with
    | command c =>
      exact h.engineOp (f := fun e => e.request c steps) hx (fun he => he.request c steps)
        (by rw [Engine.request_eq])
    | reserved code =>
      cases hx
      exact h
  | engFastStop => exact h.engineOp hx EngineInv.fastStop rfl
  | engTick =>
    obtain ⟨-, -, -, -, -, -, hi⟩ := s.eng.tick_frame
    exact h.engineOp hx EngineInv.tick hi
  | engGetState =>
    change execEngGetState s = .next t at hx
    unfold execEngGetState at hx
    split at hx <;> cases hx
    exact h.of_same rfl rfl rfl
  | engSetRampStart period =>
    exact h.engineOp (f := fun e => { e with cfgStart := period }) hx
      (fun he => he.setRampStart period) rfl
  | engSetRampEnd period =>
    exact h.engineOp (f := fun e => { e with cfgEnd := period }) hx
      (fun he => he.setRampEnd period) rfl
  | appInit =>
    cases hx
    exact h.withApp (AppInv.initialised _ _) rfl
  | appTick =>
    obtain ⟨hr, rfl⟩ := execAppTick_eq_next.mp hx
    exact (Running.mk h hr).appTick.inv
  | pulse =>
    cases hx
    exact h.pulse
  | btnPostShort =>
    cases hx
    exact h.of_same rfl rfl rfl
  | btnPostLong =>
    cases hx
    exact h.of_same rfl rfl rfl
  | btnPostLongRep =>
    cases hx
    exact h.of_same rfl rfl rfl

/-- Settles O57: a step runs an operation that keeps the invariant, a power-on reset over a store
that keeps its form, or nothing. -/
theorem stepKeepsTheInvariant : Obligations.StepKeepsTheInvariant := by
  intro s t h hx
  obtain ⟨q, p, hstep⟩ := step_cases hx
  have hp : Inv (afterTaking s q p) := h.of_same rfl rfl rfl
  rcases hstep with ⟨i, hi⟩ | rfl | rfl
  · exact hp.exec hi
  · exact Inv.of_reset rfl rfl hp.store hp.keys
  · exact hp

/-- Settles O58, with the empty store of the reset state. -/
theorem invariantHoldsAfterReset : Obligations.InvariantHoldsAfterReset :=
  Inv.of_reset rfl rfl Memory.wf_nil nofun

/-- Settles O9: the safety outputs of the reset engine are inactive, and the reset records give the
other values. -/
theorem resetGivesSpecValues : Obligations.ResetGivesSpecValues := by
  obtain ⟨hpulse, hdrv, hsleep, hreset, hstep⟩ := EngineOff.reset
  exact ⟨hpulse, hdrv, hsleep, hreset, hstep, rfl, rfl, rfl, rfl⟩

end Sys2Proof.Safety
end

section
/-! PROOFS. The store: what a read gives, what a write assigns, and the round trip. -/

namespace Sys2Proof.Machine

/-- Reading a store by its first entry. -/
@[simp] theorem Memory.read_cons (m : Memory) (k₀ k : Nat) (v₀ : Cal) :
    Memory.read ((k₀, v₀) :: m) k = if k₀ = k then some v₀ else m.read k := rfl

/-- A write assigns its key and no other, sorted or not: the new entry stands before every later
entry of that key, and the entries of other keys keep their order (20 R84). -/
theorem Memory.read_write (m : Memory) (k k' : Nat) (v : Cal) :
    (m.write k v).read k' = if k' = k then some v else m.read k' := by
  induction m with
  | nil => simp [Memory.write, Memory.read, eq_comm]
  | cons entry m ih =>
    obtain ⟨k₀, v₀⟩ := entry
    unfold Memory.write
    split
    case isTrue => simp [eq_comm]
    case isFalse =>
      split
      case isTrue heq =>
        subst heq
        by_cases hk : k = k' <;> simp [hk, eq_comm]
      case isFalse hne =>
        rw [Memory.read_cons, Memory.read_cons, ih]
        by_cases hk : k₀ = k'
        · subst hk
          simp [Ne.symm hne]
        · simp [hk]

/-- NVWrite followed by a read of any key (20 R84). -/
@[simp] theorem read_nvWrite (m : Memory) (k k' : Nat) (v : Cal) :
    (nvWrite m k v).read k' = if k' = k then some v else m.read k' :=
  m.read_write k k' v

/-- An absent key reads as the default (20 R83). -/
theorem nvRead_of_absent {m : Memory} {k : Nat} (d lo hi : Cal) (h : m.read k = none) :
    nvRead m k d lo hi = d := by
  simp [nvRead, h]

/-- A present key reads as its value inside the bounds and as the default outside (20 R83). -/
theorem nvRead_of_present {m : Memory} {k : Nat} {v : Cal} (d lo hi : Cal)
    (h : m.read k = some v) : nvRead m k d lo hi = if v < lo ∨ hi < v then d else v := by
  simp [nvRead, h]

/-- A present value within the bounds, both inclusive, is returned (20 R83). -/
theorem nvRead_of_in_range {m : Memory} {k : Nat} {v lo hi : Cal} (d : Cal)
    (h : m.read k = some v) (hlo : lo ≤ v) (hhi : v ≤ hi) : nvRead m k d lo hi = v := by
  rw [nvRead_of_present d lo hi h, if_neg]
  exact not_or.mpr ⟨BitVec.not_lt.mpr hlo, BitVec.not_lt.mpr hhi⟩

end Sys2Proof.Machine

namespace Sys2Proof.Safety

open Sys2Proof.Machine

/-- Settles O36, by induction on the store. -/
theorem nvWriteAssignsOneKey : Obligations.NVWriteAssignsOneKey := read_nvWrite

/-- Settles O35: one clause for each way the stored value can lie to the bounds. -/
theorem nvReadFallsBackToDefault : Obligations.NVReadFallsBackToDefault := by
  intro m k d lo hi
  refine ⟨nvRead_of_absent d lo hi, ?_, fun v hv => nvRead_of_in_range d hv⟩
  intro v hv hout
  rw [nvRead_of_present d lo hi hv, if_pos hout]

/-- Settles O37: the key written reads as the value, which lies in the range. -/
theorem calibrationRoundTrip : Obligations.CalibrationRoundTrip := by
  intro m c v hlo hhi
  exact nvRead_of_in_range c.dflt (by rw [read_nvWrite, if_pos rfl]) hlo hhi

end Sys2Proof.Safety
end

section
/-! PROOFS. What a step runs: the instruction that the first presentation of the port holds. -/

namespace Sys2Proof.Machine

open Sys2Proof.Safety

/-- A presentation whose first thing is an instruction: the step runs it (20 R90). -/
theorem step_of_take {s : State} {p : Presentation} {rest : List PortItem} {i : Instr}
    {left : Option Presentation} (hport : s.port = .present p :: rest)
    (htake : p.take = (.instr i, left)) :
    step s = exec i (afterTaking s (putBack left rest) p.pins) := by
  have hfetch : s.releaseRdata.fetch = (.instr i, afterTaking s (putBack left rest) p.pins) := by
    simp only [State.fetch, State.releaseRdata_port, hport, htake]
    rfl
  simp only [step, hfetch]

/-- Events come before the command: the first one is taken, and the presentation is left unless it
was the last thing of it (30 R120). -/
theorem Presentation.take_of_event {p : Presentation} {i : Instr} {ev : EventVector}
    (h : decodeEvent p.ev = some (i, ev)) :
    p.take = (.instr i, if ev = 0 ∧ p.cw = none then none else some { p with ev := ev }) := by
  simp only [Presentation.take, h]

/-- Without events the command is taken, and nothing is left (30 R120). -/
theorem Presentation.take_of_command {p : Presentation} {cw : CommandWord} {i : Instr}
    (hev : p.ev = 0) (hcw : p.cw = some cw) (hdec : decodeCommand cw = .ok i) :
    p.take = (.instr i, none) := by
  have hnone : decodeEvent p.ev = none := by rw [hev]; rfl
  simp only [Presentation.take, hnone, hcw, hdec]

/-- An opcode-table word that decodes is presented as the instruction it decodes to. -/
theorem State.take_tablePresentation (s : State) {nbits w : Nat} {i : Instr}
    (h : decodeTableWord nbits w = some i) :
    ∃ left, (s.tablePresentation nbits w).take = (.instr i, left) := by
  unfold decodeTableWord at h
  unfold State.tablePresentation
  cases hword : portWordOfTable nbits w with
  | none => simp [hword] at h
  | some word =>
    simp only [hword] at h
    cases word with
    | command cw =>
      refine ⟨none, Presentation.take_of_command rfl rfl ?_⟩
      change (decodeCommand cw).toOption = some i at h
      cases hdec : decodeCommand cw with
      | ok j => simpa [hdec, Except.toOption] using h
      | error why => simp [hdec, Except.toOption] at h
    | events ev =>
      cases hdec : decodeEvent ev with
      | none => simp [decode, hdec, Except.toOption] at h
      | some found =>
        obtain ⟨j, ev'⟩ := found
        obtain rfl : j = i := by simpa [decode, hdec, Except.toOption] using h
        exact ⟨_, Presentation.take_of_event hdec⟩

/-- A table word is presented at the present input levels. -/
@[simp] theorem State.tablePresentation_pins (s : State) (nbits w : Nat) :
    (s.tablePresentation nbits w).pins = s.pins := by
  unfold State.tablePresentation
  split <;> rfl

end Sys2Proof.Machine

namespace Sys2Proof.Safety

open Sys2Proof.Machine

/-- Settles O6: each clause names what the step takes from the presentation. -/
theorem stepRunsDecodedInstruction : Obligations.StepRunsDecodedInstruction := by
  refine ⟨?_, ?_, ?_⟩
  · intro s p rest cw i hport hev hcw hdec
    exact step_of_take hport (Presentation.take_of_command hev hcw hdec)
  · intro s p rest i ev hport hdec
    rw [step_of_take hport (Presentation.take_of_event hdec)]
    split_ifs <;> rfl
  · intro s nbits w i hdec
    obtain ⟨left, htake⟩ := s.take_tablePresentation hdec
    refine ⟨putBack left s.port, ?_⟩
    rw [step_of_take (s := s.withFetchWord nbits w) rfl htake, State.tablePresentation_pins]
    rfl

end Sys2Proof.Safety
end

section
/-! PROOFS. What an operation or event that answers a next state can do, said once: the engine
operations rewrite the engine record, and every other one its own record. -/

namespace Sys2Proof.Machine

open Sys2Proof.Safety

/-- The operations and events that rewrite the engine record alone, each with its effect on it. -/
inductive WritesEngine : Instr → (Engine → Engine) → Prop
  | init : WritesEngine .engInit fun _ => Engine.initialised Config.params
  | shutdown : WritesEngine .engShutdown Engine.shutdown
  | request (c : MotionCommand) (n : Steps) :
      WritesEngine (.engRequest (.command c) n) fun e => e.request c n
  | reserved (code : BitVec 3) (n : Steps) : WritesEngine (.engRequest (.reserved code) n) id
  | fastStop : WritesEngine .engFastStop Engine.fastStop
  | tick : WritesEngine .engTick Engine.tick
  | setRampStart (p : Period) : WritesEngine (.engSetRampStart p) fun e => { e with cfgStart := p }
  | setRampEnd (p : Period) : WritesEngine (.engSetRampEnd p) fun e => { e with cfgEnd := p }
  | pulse : WritesEngine .pulse Engine.pulse

/-- ENG.GETSTATE that answers a next state ran on an initialised engine (40 R150, 70 R332). -/
theorem execEngGetState_eq_next {s t : State} :
    execEngGetState s = .next t ↔ s.eng.engInit = true ∧ s.driveRdata s.eng.state = t := by
  unfold execEngGetState
  split <;> simp_all

/-- What an operation or event writes, when it answers a next state. -/
theorem exec_cases {i : Instr} {s t : State} (h : exec i s = .next t) :
    (∃ f, WritesEngine i f ∧ t = s.withEng (f s.eng)) ∨
    (i = .engGetState ∧ t = s.driveRdata s.eng.state) ∨
    (i = .appInit ∧ ∃ a, t = s.withApp a) ∨
    (i = .appTick ∧ t = appTick Config.params s) ∨
    (i ∈ [Instr.btnPostShort, .btnPostLong, .btnPostLongRep] ∧ ∃ b, t = s.withBtn b) := by
  have guarded {f : Engine → Engine} (hw : WritesEngine i f) (hx : engineOp f s = .next t) :
      ∃ f, WritesEngine i f ∧ t = s.withEng (f s.eng) :=
    ⟨f, hw, (engineOp_eq_next.mp hx).2.symm⟩
  cases i with
  | engInit => exact .inl ⟨_, .init, (Host.Outcome.next.inj h).symm⟩
  | engShutdown => exact .inl (guarded .shutdown h)
  | engRequest cmd n =>
    cases cmd with
    | command c => exact .inl (guarded (.request c n) h)
    | reserved code => exact .inl ⟨_, .reserved code n, (Host.Outcome.next.inj h).symm⟩
  | engFastStop => exact .inl (guarded .fastStop h)
  | engTick => exact .inl (guarded .tick h)
  | engGetState => exact .inr (.inl ⟨rfl, (execEngGetState_eq_next.mp h).2.symm⟩)
  | engSetRampStart p => exact .inl (guarded (.setRampStart p) h)
  | engSetRampEnd p => exact .inl (guarded (.setRampEnd p) h)
  | appInit => exact .inr (.inr (.inl ⟨rfl, _, (Host.Outcome.next.inj h).symm⟩))
  | appTick => exact .inr (.inr (.inr (.inl ⟨rfl, (execAppTick_eq_next.mp h).2.symm⟩)))
  | pulse => exact .inl ⟨_, .pulse, (Host.Outcome.next.inj h).symm⟩
  | btnPostShort =>
    exact .inr (.inr (.inr (.inr ⟨by simp, _, (Host.Outcome.next.inj h).symm⟩)))
  | btnPostLong =>
    exact .inr (.inr (.inr (.inr ⟨by simp, _, (Host.Outcome.next.inj h).symm⟩)))
  | btnPostLongRep =>
    exact .inr (.inr (.inr (.inr ⟨by simp, _, (Host.Outcome.next.inj h).symm⟩)))

/-- The operations outside the engine, and the one that only reads it, do not write it. -/
theorem WritesEngine.not_mem {i : Instr} {f : Engine → Engine} (h : WritesEngine i f) :
    i ∉ [Instr.appInit, .btnPostShort, .btnPostLong, .btnPostLongRep, .engGetState] := by
  cases h <;> simp

end Sys2Proof.Machine

namespace Sys2Proof.Safety

open Sys2Proof.Machine

/-- Settles O52: every operation or event rewrites one record, and APP.TICK nothing outside the
registers, the flags and the store. -/
theorem operationsKeepToTheirRecord : Obligations.OperationsKeepToTheirRecord := by
  intro i s t h
  rcases exec_cases h with ⟨f, hw, rfl⟩ | ⟨rfl, rfl⟩ | ⟨rfl, a, rfl⟩ | ⟨rfl, rfl⟩ | ⟨hi, b, rfl⟩
  · simp [hw.not_mem]
  · simp
  · simp
  · obtain ⟨hpins, hrdata, hport, hfree⟩ := SameOutside.appTick Config.params s
    simp [hpins, hrdata, hport, hfree]
  · have hmem : i ∈ [Instr.appTick, .btnPostShort, .btnPostLong, .btnPostLongRep] :=
      List.mem_cons_of_mem _ hi
    simp [hmem]

end Sys2Proof.Safety
end

section
/-! PROOFS. The store under APP.TICK: only the long press of a jog state writes it. -/

namespace Sys2Proof.Machine

open Sys2Proof.Safety

/-! ### Handlers that leave the store -/

@[simp] theorem homingRequest_store (c : Config) (s : State) :
    (homingRequest c s).store = s.store := by
  rw [homingRequest_eq]

@[simp] theorem applyFloorTable_store (s : State) : (applyFloorTable s).store = s.store := by
  unfold applyFloorTable
  split <;> rfl

@[simp] theorem endDriving_store (s : State) : (endDriving s).store = s.store := rfl

@[simp] theorem releaseTest_store (s : State) : (releaseTest s).store = s.store := by
  unfold releaseTest
  split <;> rfl

@[simp] theorem initHandler_store (c : Config) (s : State) :
    (initHandler c s).store = s.store := by
  simp only [initHandler]
  split <;> simp

@[simp] theorem setupInitHandler_store (c : Config) (s : State) :
    (setupInitHandler c s).store = s.store := by
  simp only [setupInitHandler]
  split <;> simp

@[simp] theorem idleHandler_store (s : State) : (idleHandler s).store = s.store := by
  simp only [idleHandler]
  split_ifs <;> simp

@[simp] theorem drivingHandler_store (limit : Bool) (s : State) :
    (drivingHandler limit s).store = s.store := by
  simp only [drivingHandler]
  split_ifs <;> simp

/-! ### The jog states -/

/-- The state a commit of the wizard sees: the flags taken, the short press's jog done (44 R252). -/
def beforeCommit (s : State) : State :=
  { s with
    eng := joggedEngine s
    app := { s.app with setupSteps := accumulatedSteps s }
    btn := { s.btn with btnShort := false, btnLong := false } }

/-- The presses of a jog state: the jog, then the commit of a long press (44 R252). -/
theorem takePresses_eq (commit : State → State) (s : State) :
    takePresses Config.params commit s =
      if s.btn.btnLong then commit (beforeCommit s) else beforeCommit s := by
  have hjog : (if s.btn.btnShort then jog Config.params (s.withBtn s.btn.takeShort.2.takeLong.2)
      else s.withBtn s.btn.takeShort.2.takeLong.2) = beforeCommit s := by
    unfold beforeCommit joggedEngine accumulatedSteps
    split <;> rfl
  rw [← hjog]
  rfl

/-- A jog state writes the store exactly by the commit of a long press, while no release is
awaited. -/
theorem setupFloorHandler_store (commit : State → State) (s : State) :
    (setupFloorHandler Config.params commit s).store =
      if s.app.awaitRelease = false ∧ s.btn.btnLong = true then (commit (beforeCommit s)).store
      else s.store := by
  have hlast (u : State) : (if u.app.awaitRelease then releaseTest u else u).store = u.store := by
    split <;> simp
  simp only [setupFloorHandler, hlast, takePresses_eq]
  cases s.app.awaitRelease <;> cases s.btn.btnLong <;> rfl

/-- The handlers by their state: a tick leaves the store, or a long press taken while no release is
awaited writes the accumulated count at the key of its jog state (44 R253, R255). -/
theorem appTick_store_cases (s : State) :
    (appTick Config.params s).store = s.store ∨
    ∃ k, (appTick Config.params s).store = nvWrite s.store k (accumulatedSteps s) ∧
      s.btn.btnLong = true ∧ s.app.awaitRelease = false ∧
      ((s.app.appState = .setupFloor21 ∧ k = Config.params.level12.key) ∨
        (s.app.appState = .setupFloor10 ∧ k = Config.params.level01.key)) := by
  have htick : (appTick Config.params s).store = (appHandler Config.params s).store := rfl
  rw [htick]
  unfold appHandler
  cases hq : s.app.appState with
  | init => simp
  | idle => simp
  | drivingUp => simp [drivingUpHandler]
  | drivingDown => simp [drivingDownHandler]
  | setupInit => simp
  | setupFloor21 =>
    rw [setupFloor21Handler, setupFloorHandler_store]
    split_ifs with h
    · exact .inr ⟨_, rfl, h.2, h.1, .inl ⟨rfl, rfl⟩⟩
    · exact .inl rfl
  | setupFloor10 =>
    rw [setupFloor10Handler, setupFloorHandler_store]
    split_ifs with h
    · exact .inr ⟨_, rfl, h.2, h.1, .inr ⟨rfl, rfl⟩⟩
    · exact .inl rfl
  | reserved7 => simp

end Sys2Proof.Machine

namespace Sys2Proof.Safety

open Sys2Proof.Machine

/-- Settles O38: no operation but APP.TICK writes the store, and its write assigns one key. -/
theorem onlyWizardCommitsWriteTheStore : Obligations.OnlyWizardCommitsWriteTheStore := by
  intro i s t k h hne
  by_cases hi : i = .appTick
  · subst hi
    obtain ⟨-, rfl⟩ := execAppTick_eq_next.mp h
    rcases appTick_store_cases s with hsame | ⟨key, hwrite, hlong, hawait, hkey⟩
    · exact absurd (by rw [hsame]) hne
    · rw [hwrite, read_nvWrite] at hne ⊢
      split_ifs at hne ⊢ with hk
      · subst hk
        exact ⟨rfl, hlong, hawait, hkey, rfl⟩
      · exact absurd rfl hne
  · obtain ⟨-, hstore, -⟩ := operationsKeepToTheirRecord i s t h
    exact absurd (by rw [hstore hi]) hne

end Sys2Proof.Safety
end

section
/-! PROOFS. The fields the pulse interrupt writes: what the host operations and the application's
tick do to them (20 R91). -/

namespace Sys2Proof.Machine

open Sys2Proof.Safety

/-! ### The engine under APP.TICK -/

/-- The nested commands of one handler of APP.TICK leave the engine, stop it, or stage one drive
(43 R218). -/
inductive Commanded (e : Engine) : Engine → Prop
  | same : Commanded e e
  | stopped : Commanded e (fastStopped e)
  | staged (c : MotionCommand) (n : Steps) (hc : c.isDrive = true) : Commanded e (driveStaged e c n)

/-- A fast stop overwrites the drive a handler staged before it (40 R148). -/
theorem Commanded.fastStop {e e' : Engine} (h : Commanded e e') : Commanded e e'.fastStop := by
  cases h <;> exact .stopped

theorem Commanded.homingRequest (c : Config) (s : State) :
    Commanded s.eng (homingRequest c s).eng := by
  rw [homingRequest_eq]
  dsimp only
  split
  · exact .staged _ _ rfl
  · exact .same

theorem floorMove_isDrive {a : App} {m : FloorMove} (h : floorMove a = some m) :
    m.cmd.isDrive = true := by
  unfold floorMove at h
  split at h <;> cases h <;> rfl

theorem Commanded.applyFloorTable (s : State) : Commanded s.eng (applyFloorTable s).eng := by
  unfold Machine.applyFloorTable
  split
  case h_1 => exact .same
  case h_2 m hm =>
    have hd := floorMove_isDrive hm
    rw [State.withApp_eng, State.request_eng, Engine.request_drive _ _ hd]
    exact .staged _ _ hd

@[simp] theorem releaseTest_eng (s : State) : (releaseTest s).eng = s.eng := by
  unfold releaseTest
  split <;> rfl

theorem Commanded.beforeCommit (s : State) : Commanded s.eng (beforeCommit s).eng := by
  show Commanded s.eng (joggedEngine s)
  unfold joggedEngine
  split
  · exact .staged _ _ rfl
  · exact .same

theorem Commanded.setupFloorHandler {commit : State → State} (s : State)
    (hc : ∀ u, (commit u).eng = u.eng) :
    Commanded s.eng (setupFloorHandler Config.params commit s).eng := by
  have hlast (u : State) : (if u.app.awaitRelease then releaseTest u else u).eng = u.eng := by
    split <;> simp
  simp only [Machine.setupFloorHandler, hlast, takePresses_eq]
  split_ifs
  · exact .same
  · rw [hc]
    exact .beforeCommit s
  · exact .beforeCommit s

theorem Commanded.drivingHandler (limit : Bool) (s : State) :
    Commanded s.eng (drivingHandler limit s).eng := by
  rw [drivingHandler_eng]
  split
  · exact .stopped
  · exact .same

/-- The engine after APP.TICK, whatever the handler. -/
theorem Commanded.appTick (s : State) : Commanded s.eng (appTick Config.params s).eng := by
  show Commanded s.eng (appHandler Config.params s).eng
  unfold appHandler
  cases s.app.appState with
  | init =>
    simp only [initHandler]
    split
    · exact (Commanded.homingRequest _ s).fastStop
    · exact .homingRequest _ s
  | idle =>
    have htable := Commanded.applyFloorTable (s.withBtn s.btn.takeShort.2.takeLong.2)
    simp only [idleHandler]
    split_ifs
    · exact htable
    · exact .same
    · exact htable
    · exact .same
  | drivingUp => exact .drivingHandler _ s
  | drivingDown => exact .drivingHandler _ s
  | setupInit =>
    simp only [setupInitHandler]
    split
    · exact (Commanded.homingRequest _ s).fastStop
    · exact .homingRequest _ s
  | setupFloor21 => exact .setupFloorHandler s fun _ => rfl
  | setupFloor10 => exact .setupFloorHandler s fun _ => rfl
  | reserved7 => exact .same

/-! ### The tick of the engine -/

/-- A tick writes the interrupt's fields only where it starts a ramp, or consumes a stable request
(41 R175, R176). -/
theorem Engine.tick_interrupt_fields (e : Engine) :
    (e.state = .rampStart ∧ (seenCmd e = .driveUp ∨ seenCmd e = .driveDown) ∧
      e.tick.count = 0 ∧ e.tick.currentPeriod = e.cfgStart ∧ e.tick.stableReq = false) ∨
    (e.tick.count = e.count ∧ e.tick.currentPeriod = e.currentPeriod ∧
      (e.tick.stableReq = e.stableReq ∨
        (e.tick.stableReq = false ∧ e.state = .rampUp ∧ e.stableReq = true))) := by
  have hd := pickedUp_isDrive e
  have htick : e.tick = (pickedUp e).handler.commit := by rw [Engine.tick, Engine.pickup_eq]
  have hs : (pickedUp e).state = e.state := rfl
  rw [htick]
  unfold Engine.handler
  rw [hs]
  cases hst : e.state with
  | rampStart =>
    by_cases hdrive : seenCmd e = .driveUp ∨ seenCmd e = .driveDown
    · refine .inl ⟨rfl, hdrive, ?_⟩
      simp only [Engine.rampStartHandler, hd, hdrive, decide_true, if_true]
      exact ⟨rfl, rfl, rfl⟩
    · simp only [Engine.rampStartHandler, hd, hdrive, decide_false]
      exact .inr ⟨rfl, rfl, .inl rfl⟩
  | rampUp =>
    unfold Engine.rampUpHandler
    split_ifs with _ _ hreq
    · exact .inr ⟨rfl, rfl, .inl rfl⟩
    · exact .inr ⟨rfl, rfl, .inl rfl⟩
    · exact .inr ⟨rfl, rfl, .inr ⟨rfl, rfl, hreq⟩⟩
    · exact .inr ⟨rfl, rfl, .inl rfl⟩
  | rampStable =>
    unfold Engine.rampStableHandler
    split_ifs <;> exact .inr ⟨rfl, rfl, .inl rfl⟩
  | idle => exact .inr ⟨rfl, rfl, .inl rfl⟩
  | arrived => exact .inr ⟨rfl, rfl, .inl rfl⟩
  | fault => exact .inr ⟨rfl, rfl, .inl rfl⟩
  | faultInvalidDirection => exact .inr ⟨rfl, rfl, .inl rfl⟩
  | reserved7 => exact .inr ⟨rfl, rfl, .inl rfl⟩

end Sys2Proof.Machine

namespace Sys2Proof.Safety

open Sys2Proof.Machine

/-- Settles O31, by the record an operation writes and, for the engine's, by the operation. -/
theorem interruptFieldsHaveNamedWriters : Obligations.InterruptFieldsHaveNamedWriters := by
  intro i s t hpulse h
  rcases exec_cases h with ⟨f, hw, rfl⟩ | ⟨rfl, rfl⟩ | ⟨rfl, a, rfl⟩ | ⟨rfl, rfl⟩ | ⟨-, b, rfl⟩
  · rw [State.withEng_eng]
    cases hw with
    | init => simp [Engine.initialised]
    | shutdown => simp [Engine.shutdown]
    | request c n =>
      by_cases hc : c = .stop <;> simp [Engine.request_eq, hc]
    | reserved code n => simp
    | fastStop => simp [Engine.fastStop_eq, fastStopped]
    | tick =>
      obtain ⟨hstep, -⟩ := s.eng.tick_frame
      rcases s.eng.tick_interrupt_fields with
        ⟨hq, hseen, hcount, hperiod, hreq⟩ | ⟨hcount, hperiod, hreq⟩
      · have hramp : startsRamp .engTick s := ⟨rfl, hq, hseen⟩
        exact ⟨.inl hstep, .inr ⟨hcount, .inl hramp⟩, .inr (.inl ⟨hramp, hperiod⟩),
          .inr ⟨hreq, .inl hramp⟩⟩
      · refine ⟨.inl hstep, .inl hcount, .inl hperiod, ?_⟩
        exact hreq.imp_right fun ⟨hclear, hq, hset⟩ => ⟨hclear, .inr (.inl ⟨rfl, hq, hset⟩)⟩
    | setRampStart p => simp
    | setRampEnd p => simp
    | pulse => exact absurd rfl hpulse
  · simp
  · simp
  · have hcmd := Commanded.appTick s
    generalize (appTick Config.params s).eng = e at hcmd
    cases hcmd with
    | same => simp
    | stopped => simp [fastStopped]
    | staged c n hc => simp [driveStaged]
  · simp

end Sys2Proof.Safety
end

section
/-! PROOFS. The command decoder said once, by the fields it reads, and the words it rejects. -/

namespace Sys2Proof

open Sys2Proof.Safety

/-! ### Fields of a word under a mask -/

/-- Two words that agree under a mask agree on every field the mask covers. -/
theorem extractLsb'_eq_of_and_eq {w start len : Nat} {x y m : BitVec w}
    (hm : m.extractLsb' start len = BitVec.allOnes len) (h : x &&& m = y &&& m) :
    x.extractLsb' start len = y.extractLsb' start len := by
  simpa [BitVec.extractLsb'_and, hm] using congrArg (BitVec.extractLsb' start len) h

/-- Two words that agree under a mask agree on every bit of the mask. -/
theorem getLsbD_eq_of_and_eq {w k : Nat} {x y m : BitVec w}
    (hm : m.getLsbD k = true) (h : x &&& m = y &&& m) : x.getLsbD k = y.getLsbD k := by
  simpa [hm] using congrArg (BitVec.getLsbD · k) h

/-- A command word with `rsv` = 0 is the word assembled from its fields (30 R111). -/
theorem commandWord_fields {cw : CommandWord} (hrsv : rsvField cw = false) :
    commandWord (opField cw) (cmdField cw) (valField cw) = cw := by
  have hbit : cw.extractLsb' 35 1 = 0#1 := by
    ext k hk
    obtain rfl : k = 0 := by omega
    simpa [rsvField] using hrsv
  calc commandWord (opField cw) (cmdField cw) (valField cw)
      = cw.extractLsb' 36 4 ++ cw.extractLsb' 35 1 ++ cw.extractLsb' 32 3 ++
          cw.extractLsb' 0 32 := by
        rw [hbit]
        rfl
    _ = cw.extractLsb' 0 40 := by
        rw [BitVec.extractLsb'_append_extractLsb'_eq_extractLsb' (show 36 = 35 + 1 from rfl),
          BitVec.extractLsb'_append_extractLsb'_eq_extractLsb' (show 35 = 32 + 3 from rfl),
          BitVec.extractLsb'_append_extractLsb'_eq_extractLsb' (show 32 = 0 + 32 from rfl)]
    _ = cw := BitVec.extractLsb'_eq_self

/-- A word matches a command row exactly when `op` is the row's and `rsv` is 0 (30 R111). -/
theorem and_mask_eq_commandWord_iff (cw : CommandWord) (op : BitVec 4) :
    cw &&& 0xF800000000 = commandWord op 0 0 ↔ rsvField cw = false ∧ opField cw = op := by
  constructor
  · intro h
    rw [← commandWord_and_mask op 0 0] at h
    have hrsv : rsvField cw = rsvField (commandWord op 0 0) := getLsbD_eq_of_and_eq (by decide) h
    have hop : opField cw = opField (commandWord op 0 0) := extractLsb'_eq_of_and_eq (by decide) h
    rw [rsvField_commandWord] at hrsv
    rw [opField_commandWord] at hop
    exact ⟨hrsv, hop⟩
  · rintro ⟨hrsv, rfl⟩
    rw [← commandWord_and_mask (opField cw) (cmdField cw) (valField cw), commandWord_fields hrsv]

/-- The `op` field is the word's number divided by 2 ^ 36. -/
theorem opField_toNat (cw : CommandWord) : (opField cw).toNat = cw.toNat / 2 ^ 36 := by
  have := cw.isLt
  rw [opField, BitVec.extractLsb'_toNat, Nat.shiftRight_eq_div_pow]
  omega

/-! ### What the decoder reads -/

/-- The instruction that the fields of a command word stand for, `rsv` apart (30 R117, R118). -/
inductive FieldsRead (cw : CommandWord) : Instr → Prop
  | engInit (op : opField cw = 0x1) : FieldsRead cw .engInit
  | engShutdown (op : opField cw = 0x2) : FieldsRead cw .engShutdown
  | engRequest (op : opField cw = 0x3) :
      FieldsRead cw (.engRequest (CommandField.ofBits (cmdField cw)) (valField cw))
  | engFastStop (op : opField cw = 0x4) : FieldsRead cw .engFastStop
  | engTick (op : opField cw = 0x5) : FieldsRead cw .engTick
  | engGetState (op : opField cw = 0x6) : FieldsRead cw .engGetState
  | engSetRampStart (op : opField cw = 0x7) : FieldsRead cw (.engSetRampStart (periodField cw))
  | engSetRampEnd (op : opField cw = 0x8) : FieldsRead cw (.engSetRampEnd (periodField cw))
  | appInit (op : opField cw = 0x9) : FieldsRead cw .appInit
  | appTick (op : opField cw = 0xA) : FieldsRead cw .appTick

/-- A command word decodes exactly when `rsv` is 0, and to what its fields stand for (30 R111). -/
theorem decodeCommand_eq_ok {cw : CommandWord} {i : Instr} :
    decodeCommand cw = .ok i ↔ rsvField cw = false ∧ FieldsRead cw i := by
  constructor
  · intro h
    unfold decodeCommand at h
    cases hrsv : rsvField cw with
    | true => simp [hrsv] at h
    | false =>
      refine ⟨rfl, ?_⟩
      have code {n : Nat} {op : BitVec 4} (hn : (opField cw).toNat = n) (hop : n = op.toNat) :
          opField cw = op := BitVec.eq_of_toNat_eq (hn.trans hop)
      simp only [hrsv, Bool.false_eq_true, if_false] at h
      split at h <;> cases h
      case h_1 hop => exact .engInit (code hop rfl)
      case h_2 hop => exact .engShutdown (code hop rfl)
      case h_3 hop => exact .engRequest (code hop rfl)
      case h_4 hop => exact .engFastStop (code hop rfl)
      case h_5 hop => exact .engTick (code hop rfl)
      case h_6 hop => exact .engGetState (code hop rfl)
      case h_7 hop => exact .engSetRampStart (code hop rfl)
      case h_8 hop => exact .engSetRampEnd (code hop rfl)
      case h_9 hop => exact .appInit (code hop rfl)
      case h_10 hop => exact .appTick (code hop rfl)
  · rintro ⟨hrsv, hread⟩
    cases hread <;> simp [decodeCommand, *]

/-- An operation code is assigned exactly if it is 0x1 to 0xA (30 R117, R125 a). -/
theorem exists_fieldsRead_iff (cw : CommandWord) :
    (∃ i, FieldsRead cw i) ↔ 1 ≤ (opField cw).toNat ∧ (opField cw).toNat ≤ 10 := by
  constructor
  · rintro ⟨i, hread⟩
    cases hread <;> simp [*]
  · rintro ⟨hlo, hhi⟩
    have assigned : ∀ op : BitVec 4, 1 ≤ op.toNat → op.toNat ≤ 10 →
        op = 0x1 ∨ op = 0x2 ∨ op = 0x3 ∨ op = 0x4 ∨ op = 0x5 ∨ op = 0x6 ∨ op = 0x7 ∨ op = 0x8 ∨
          op = 0x9 ∨ op = 0xA := by decide
    rcases assigned _ hlo hhi with op | op | op | op | op | op | op | op | op | op
    exacts [⟨_, .engInit op⟩, ⟨_, .engShutdown op⟩, ⟨_, .engRequest op⟩, ⟨_, .engFastStop op⟩,
      ⟨_, .engTick op⟩, ⟨_, .engGetState op⟩, ⟨_, .engSetRampStart op⟩, ⟨_, .engSetRampEnd op⟩,
      ⟨_, .appInit op⟩, ⟨_, .appTick op⟩]

/-- The row of the instruction read is the one of the word's `op` (30 R117). -/
theorem FieldsRead.row_eq {cw : CommandWord} {i : Instr} (h : FieldsRead cw i) :
    i.row = .command 0xF800000000 (commandWord (opField cw) 0 0) := by
  cases h <;> simp only [Instr.row, *] <;> rfl

/-- The rows of the opcode table: the ten assigned codes under one mask, and the events' (30 R117,
R120). -/
theorem Instr.row_cases (j : Instr) :
    (∃ op : BitVec 4, 1 ≤ op.toNat ∧ op.toNat ≤ 10 ∧
      j.row = .command 0xF800000000 (commandWord op 0 0)) ∨
    ∃ mask bits, j.row = .events mask bits := by
  cases j with
  | engInit => exact .inl ⟨0x1, by decide⟩
  | engShutdown => exact .inl ⟨0x2, by decide⟩
  | engRequest cmd steps => exact .inl ⟨0x3, by decide, by decide, rfl⟩
  | engFastStop => exact .inl ⟨0x4, by decide⟩
  | engTick => exact .inl ⟨0x5, by decide⟩
  | engGetState => exact .inl ⟨0x6, by decide⟩
  | engSetRampStart period => exact .inl ⟨0x7, by decide, by decide, rfl⟩
  | engSetRampEnd period => exact .inl ⟨0x8, by decide, by decide, rfl⟩
  | appInit => exact .inl ⟨0x9, by decide⟩
  | appTick => exact .inl ⟨0xA, by decide⟩
  | pulse => exact .inr ⟨_, _, rfl⟩
  | btnPostShort => exact .inr ⟨_, _, rfl⟩
  | btnPostLong => exact .inr ⟨_, _, rfl⟩
  | btnPostLongRep => exact .inr ⟨_, _, rfl⟩

/-- Every format uses `op` (30 R112). -/
theorem opField_usedBits (i : Instr) : opField (usedBits i) = BitVec.allOnes 4 := by
  unfold usedBits
  split <;> rfl

/-- Every format uses `rsv` (30 R112). -/
theorem rsvField_usedBits (i : Instr) : rsvField (usedBits i) = true := by
  unfold usedBits
  split <;> rfl

/-- Format P uses the period (30 R112). -/
theorem periodField_eq_of_and_eq {cw cw' : CommandWord}
    (h : cw &&& 0xF80000FFFF = cw' &&& 0xF80000FFFF) : periodField cw = periodField cw' :=
  extractLsb'_eq_of_and_eq (by decide) h

/-- What is read from a word depends only on the bits that its format uses (30 R112). -/
theorem FieldsRead.of_usedBits_eq {cw cw' : CommandWord} {i : Instr} (h : FieldsRead cw i)
    (hagree : cw &&& usedBits i = cw' &&& usedBits i) : FieldsRead cw' i := by
  have hop : opField cw = opField cw' := extractLsb'_eq_of_and_eq (opField_usedBits i) hagree
  cases h with
  | engInit op => exact .engInit (hop ▸ op)
  | engShutdown op => exact .engShutdown (hop ▸ op)
  | engRequest op =>
    have hall : usedBits (.engRequest (.ofBits (cmdField cw)) (valField cw)) =
        BitVec.allOnes 40 := rfl
    rw [hall, BitVec.and_allOnes, BitVec.and_allOnes] at hagree
    exact hagree ▸ .engRequest op
  | engFastStop op => exact .engFastStop (hop ▸ op)
  | engTick op => exact .engTick (hop ▸ op)
  | engGetState op => exact .engGetState (hop ▸ op)
  | engSetRampStart op =>
    exact periodField_eq_of_and_eq hagree ▸ .engSetRampStart (hop ▸ op)
  | engSetRampEnd op =>
    exact periodField_eq_of_and_eq hagree ▸ .engSetRampEnd (hop ▸ op)
  | appInit op => exact .appInit (hop ▸ op)
  | appTick op => exact .appTick (hop ▸ op)

/-- A word with `rsv` = 1 or an unassigned `op` decodes to nothing (30 R125 a). -/
theorem decodeCommand_of_reserved {cw : CommandWord}
    (h : cw.getLsbD 35 = true ∨ (cw.toNat / 2 ^ 36 = 0 ∨ 11 ≤ cw.toNat / 2 ^ 36)) :
    ∃ why, decodeCommand cw = .error why := by
  cases hdec : decodeCommand cw with
  | error why => exact ⟨why, rfl⟩
  | ok i =>
    obtain ⟨hrsv, hread⟩ := decodeCommand_eq_ok.mp hdec
    obtain ⟨hlo, hhi⟩ := (exists_fieldsRead_iff cw).mp ⟨i, hread⟩
    rw [opField_toNat] at hlo hhi
    rcases h with h | h
    · exact absurd h (Bool.eq_false_iff.mp hrsv)
    · omega

end Sys2Proof
end

section
/-! PROOFS. Reserved words are taken and run nothing, the events commute, and the statements about
the encoding. -/

namespace Sys2Proof.Machine

open Sys2Proof.Safety

/-- A presentation at the front of the port is what the step fetches (20 R90). -/
theorem releaseRdata_fetch_of_present {s : State} {p : Presentation} {rest : List PortItem}
    (hport : s.port = .present p :: rest) :
    s.releaseRdata.fetch = (p.take.1, afterTaking s (putBack p.take.2 rest) p.pins) := by
  simp only [State.fetch, State.releaseRdata_port, hport]
  rfl

/-- A presentation in which there is nothing to run: the step only takes it (30 R125). -/
theorem step_of_take_nothing {s : State} {p : Presentation} {rest : List PortItem} {why : Reserved}
    {left : Option Presentation} (hport : s.port = .present p :: rest)
    (htake : p.take = (.nothing why, left)) :
    step s = .next (afterTaking s (putBack left rest) p.pins) := by
  simp only [step, releaseRdata_fetch_of_present hport, htake]

/-- A reserved command word without events is taken and is nothing to run (30 R125 a). -/
theorem Presentation.take_of_reserved {p : Presentation} {cw : CommandWord} {why : Reserved}
    (hev : p.ev = 0) (hcw : p.cw = some cw) (hdec : decodeCommand cw = .error why) :
    p.take = (.nothing why, none) := by
  have hnone : decodeEvent p.ev = none := by rw [hev]; rfl
  simp only [Presentation.take, hnone, hcw, hdec]

/-- A presentation of no event and no word is nothing to run (30 R125 c). -/
theorem Presentation.take_of_empty {p : Presentation} (hev : p.ev = 0) (hcw : p.cw = none) :
    p.take = (.nothing .noEvent, none) := by
  have hnone : decodeEvent p.ev = none := by rw [hev]; rfl
  simp only [Presentation.take, hnone, hcw]

/-- PULSE writes the engine alone and a button event the flags alone, so they commute (30 R120). -/
theorem run_pulse_post {k : Instr} (s : State)
    (h : k ∈ [Instr.btnPostShort, .btnPostLong, .btnPostLongRep]) :
    run [.pulse, k] s = run [k, .pulse] s := by
  fin_cases h <;> rfl

/-- Two button events set flags and read none, so they commute (30 R120, 45 R270). -/
theorem run_post_post {k l : Instr} (s : State)
    (hk : k ∈ [Instr.btnPostShort, .btnPostLong, .btnPostLongRep])
    (hl : l ∈ [Instr.btnPostShort, .btnPostLong, .btnPostLongRep]) :
    run [k, l] s = run [l, k] s := by
  fin_cases hk <;> fin_cases hl <;> rfl

end Sys2Proof.Machine

namespace Sys2Proof.Safety

open Sys2Proof.Machine

/-- Settles O3: both sides say that the row is a command row, that `rsv` is 0 and that `op` is the
row's. -/
theorem commandToldApartByOpAndRsv : Obligations.CommandToldApartByOpAndRsv := by
  intro cw j
  rcases j.row_cases with ⟨op, hlo, hhi, hrow⟩ | ⟨mask, bits, hrow⟩
  · have hmatch :
        j.row.matchesWord (.command cw) = true ↔ rsvField cw = false ∧ opField cw = op := by
      rw [hrow, ← and_mask_eq_commandWord_iff]
      exact beq_iff_eq
    rw [hmatch]
    constructor
    · rintro ⟨hrsv, rfl⟩
      obtain ⟨i, hread⟩ := (exists_fieldsRead_iff cw).mpr ⟨hlo, hhi⟩
      exact ⟨i, decodeCommand_eq_ok.mpr ⟨hrsv, hread⟩, hread.row_eq.trans hrow.symm⟩
    · rintro ⟨i, hdec, hij⟩
      obtain ⟨hrsv, hread⟩ := decodeCommand_eq_ok.mp hdec
      rw [hread.row_eq, hrow, Row.command.injEq] at hij
      have hop := congrArg opField hij.2
      rw [opField_commandWord, opField_commandWord] at hop
      exact ⟨hrsv, hop⟩
  · rw [hrow]
    constructor
    · nofun
    · rintro ⟨i, hdec, hij⟩
      rw [(decodeCommand_eq_ok.mp hdec).2.row_eq] at hij
      cases hij

/-- Settles O4: `rsv` and what is read depend only on the bits used. -/
theorem unusedFieldsIgnored : Obligations.UnusedFieldsIgnored := by
  intro cw cw' i hdec hagree
  obtain ⟨hrsv, hread⟩ := decodeCommand_eq_ok.mp hdec
  have hsame : rsvField cw = rsvField cw' := getLsbD_eq_of_and_eq (rsvField_usedBits i) hagree
  exact decodeCommand_eq_ok.mpr ⟨hsame ▸ hrsv, hread.of_usedBits_eq hagree⟩

/-- Settles O1: the decoder run on the words. -/
theorem sampleWordsDecode : Obligations.SampleWordsDecode := by
  unfold Obligations.SampleWordsDecode
  decide

/-- Settles O5: a reserved word, and a presentation of nothing, is only taken; ENG.REQUEST with a
reserved code answers the state it ran in. -/
theorem reservedEncodingsAreNoOps : Obligations.ReservedEncodingsAreNoOps := by
  refine ⟨?_, fun _ _ _ => rfl, ?_⟩
  · intro s p rest cw hport hev hcw hres
    obtain ⟨why, hdec⟩ := decodeCommand_of_reserved hres
    exact step_of_take_nothing hport (Presentation.take_of_reserved hev hcw hdec)
  · intro s p rest hport hev hcw
    exact step_of_take_nothing hport (Presentation.take_of_empty hev hcw)

/-- Settles O7: two pulses, a pulse and a button event in either order, or two button events. -/
theorem eventsCommute : Obligations.EventsCommute := by
  intro i j s hi hj
  rcases List.mem_cons.mp hi with rfl | hi <;> rcases List.mem_cons.mp hj with rfl | hj
  · rfl
  · exact run_pulse_post s hj
  · exact (run_pulse_post s hi).symm
  · exact run_post_post s hi hj

end Sys2Proof.Safety
end

section
/-! PROOFS. The engine's operations: what each one answers on an initialised engine, the words of
the family, and what follows for a stop, a shutdown and a fault. -/

namespace Sys2Proof

/-- A period operand fills the low 16 bits of the word, and every bit between it and `op` is 0
(30 R111, R118). -/
theorem commandWord_period (op : BitVec 4) (p : Period) :
    commandWord op 0 (p.setWidth 32) = (op ++ 0#20 ++ p : BitVec 40) := by
  apply BitVec.eq_of_toNat_eq
  change (op ++ 0#1 ++ 0#3 ++ p.setWidth 32).toNat = (op ++ 0#20 ++ p).toNat
  have hp : (p.setWidth 32).toNat = p.toNat := BitVec.toNat_setWidth_of_le (by decide)
  simp only [BitVec.toNat_append, hp, -Nat.reduceAdd]
  simp [← Nat.shiftLeft_add]

namespace Machine

open Sys2Proof.Safety

/-! ### What an operation answers -/

/-- No operation that rewrites the engine is refused after ENG.INIT (70 R332). -/
theorem WritesEngine.exec_eq_next {i : Instr} {f : Engine → Engine} {s : State}
    (hw : WritesEngine i f) (hi : s.eng.engInit = true) :
    exec i s = .next (s.withEng (f s.eng)) := by
  cases hw with
  | init => rfl
  | shutdown => exact engineOp_of_init _ hi
  | request c n => exact engineOp_of_init (fun e => e.request c n) hi
  | reserved code n => rfl
  | fastStop => exact engineOp_of_init _ hi
  | tick => exact engineOp_of_init _ hi
  | setRampStart p => exact engineOp_of_init (fun e => { e with cfgStart := p }) hi
  | setRampEnd p => exact engineOp_of_init (fun e => { e with cfgEnd := p }) hi
  | pulse => rfl

/-- Only the tick and ENG.INIT write the motion state or its staged value (41 R182). -/
theorem exec_motion_frame {i : Instr} {s t : State} (htick : i ≠ .engTick) (hinit : i ≠ .engInit)
    (h : exec i s = .next t) :
    t.eng.state = s.eng.state ∧ t.eng.nextState = s.eng.nextState := by
  rcases exec_cases h with ⟨f, hw, rfl⟩ | ⟨-, rfl⟩ | ⟨-, a, rfl⟩ | ⟨-, rfl⟩ | ⟨-, b, rfl⟩
  · cases hw with
    | init => exact absurd rfl hinit
    | tick => exact absurd rfl htick
    | request c n => simp [Engine.request_eq]
    | pulse => rw [State.withEng_eng, Engine.pulse_frame]; exact ⟨rfl, rfl⟩
    | shutdown => exact ⟨rfl, rfl⟩
    | reserved code n => exact ⟨rfl, rfl⟩
    | fastStop => exact ⟨rfl, rfl⟩
    | setRampStart p => exact ⟨rfl, rfl⟩
    | setRampEnd p => exact ⟨rfl, rfl⟩
  · exact ⟨rfl, rfl⟩
  · exact ⟨rfl, rfl⟩
  · have hcmd := Commanded.appTick s
    generalize (appTick Config.params s).eng = e at hcmd
    cases hcmd <;> exact ⟨rfl, rfl⟩
  · exact ⟨rfl, rfl⟩

/-! ### Runs -/

/-- A property that every instruction of a list keeps holds of the state in which a run of the list
ends. -/
theorem run_preserves {P : State → Prop} {is : List Instr}
    (hstep : ∀ i ∈ is, ∀ u v, P u → exec i u = .next v → P v) {s t : State} (hs : P s)
    (h : run is s = .next t) : P t := by
  induction is generalizing s with
  | nil =>
    cases h
    exact hs
  | cons i is ih =>
    rw [List.forall_mem_cons] at hstep
    obtain ⟨hhead, htail⟩ := hstep
    cases he : exec i s with
    | next u =>
      rw [run_cons is he] at h
      exact ih htail (hhead s u hs he) h
    | fault f => simp [run, he] at h
    | refused r => simp [run, he] at h

/-- Where every instruction of a list answers a next state and keeps a property, the list runs to a
state that has it. -/
theorem run_next_of_exec_next {P : State → Prop} {is : List Instr}
    (hstep : ∀ i ∈ is, ∀ u, P u → ∃ v, exec i u = .next v ∧ P v) {s : State} (hs : P s) :
    ∃ t, run is s = .next t ∧ P t := by
  induction is generalizing s with
  | nil => exact ⟨s, rfl, hs⟩
  | cons i is ih =>
    rw [List.forall_mem_cons] at hstep
    obtain ⟨hhead, htail⟩ := hstep
    obtain ⟨u, he, hu⟩ := hhead s hs
    rw [run_cons is he]
    exact ih htail hu

/-! ### The pulse and the tick -/

/-- The gate is closed while the interrupt is disabled (42 R200). -/
theorem Engine.pulseGate_of_disabled {e : Engine} (h : e.pulseEn = false) :
    e.pulseGate = false := by
  simp [Engine.pulseGate, h]

/-- The gate is closed once the target is reached (42 R200). -/
theorem Engine.pulseGate_of_reached {e : Engine} (h : e.target ≤ e.count) :
    e.pulseGate = false := by
  simp [Engine.pulseGate, BitVec.not_lt.mpr h]

/-- Any number of firings with the gate closed changes nothing (20 R95). -/
theorem run_pulses_of_gated {s : State} (k : Nat) (h : s.eng.pulseGate = false) :
    run (List.replicate k .pulse) s = .next s := by
  rw [run_pulses, Function.iterate_fixed (s.eng.pulse_of_gated h)]
  rfl

/-- After a tick the staged state is the committed one (41 R181). -/
theorem Engine.tick_committed (e : Engine) : e.tick.nextState = e.tick.state := rfl

/-- The motion state that a tick commits (41 R182). -/
theorem Engine.tick_state {e : Engine} (hc : e.nextState = e.state) :
    e.tick.state =
      motionAfter e.state (seenCmd e) (decide (e.target ≤ e.count)) e.stableReq := by
  rw [← Engine.handler_nextState e hc, ← Engine.pickup_eq]
  rfl

/-- A tick that sees a Stop leaves the pulse hardware disabled, whatever the motion state
(40 R149 b, c). -/
theorem Engine.tick_disabled_of_stop {e : Engine} (h : seenCmd e = .stop) :
    e.tick.pulseEn = false ∧ e.tick.drvEn = false := by
  have hcmd : (pickedUp e).activeCmd = .stop := h
  have hdrive : (pickedUp e).activeCmd.isDrive = false := by rw [hcmd]; rfl
  have hdisabled :
      (pickedUp e).handler.pulseEn = false ∧ (pickedUp e).handler.drvEn = false := by
    unfold Engine.handler
    cases (pickedUp e).state with
    | rampStart => simp [Engine.rampStartHandler, hdrive, Engine.raise, Engine.disable]
    | rampUp => simp [Engine.rampUpHandler, hcmd, Engine.disable]
    | rampStable => simp [Engine.rampStableHandler, hcmd, Engine.disable]
    | idle => exact ⟨rfl, rfl⟩
    | arrived => exact ⟨rfl, rfl⟩
    | fault => exact ⟨rfl, rfl⟩
    | faultInvalidDirection => exact ⟨rfl, rfl⟩
    | reserved7 => exact ⟨rfl, rfl⟩
  rwa [← Engine.pickup_eq] at hdisabled

/-- In a motion with pulses missing and no Stop, a tick picks up the command, and consumes the
stable request if RampUp has one (41 R176, R177). -/
theorem Engine.tick_of_moving {e : Engine} (hc : e.nextState = e.state)
    (hm : e.state = .rampUp ∨ e.state = .rampStable) (hlt : e.count < e.target)
    (hstop : seenCmd e ≠ .stop) :
    e.tick = pickedUp e ∨
    e.tick = { pickedUp e with
      state := .rampStable, nextState := .rampStable, stableReq := false } := by
  have hs : (pickedUp e).state = e.state := rfl
  have hcmd : (pickedUp e).activeCmd ≠ .stop := hstop
  have htarget : ¬ (pickedUp e).target ≤ (pickedUp e).count := BitVec.not_le.mpr hlt
  have hstay : (pickedUp e).commit = pickedUp e := engineCommit_eq_self hc
  rw [Engine.tick, Engine.pickup_eq, Engine.handler, hs]
  rcases hm with hm | hm <;> rw [hm]
  · simp only [Engine.rampUpHandler, if_neg hcmd, if_neg htarget]
    split
    · exact .inr rfl
    · exact .inl hstay
  · simp only [Engine.rampStableHandler, if_neg hcmd, if_neg htarget]
    exact .inl hstay

/-! ### A stranded motion -/

/-- The engine stands in a motion that `e₀` began: pulses are missing, the interrupt is disabled and
no Stop is under way (40 R143 b). -/
structure Stranded (e₀ e : Engine) : Prop where
  ready : e.engInit = true
  committed : e.nextState = e.state
  moving : e.state = .rampUp ∨ e.state = .rampStable
  silent : e.pulseEn = false
  missing : e.count < e.target
  noStop : seenCmd e ≠ .stop
  count : e.count = e₀.count
  stepOut : e.stepOut = e₀.stepOut

namespace Stranded

variable {e₀ e : Engine}

/-- The pickup keeps the command that the tick sees. -/
theorem pickedUp (h : Stranded e₀ e) : Stranded e₀ (pickedUp e) :=
  { h with }

theorem tick (h : Stranded e₀ e) : Stranded e₀ e.tick := by
  rcases Engine.tick_of_moving h.committed h.moving h.missing h.noStop with heq | heq <;> rw [heq]
  · exact h.pickedUp
  · exact { h.pickedUp with committed := rfl, moving := .inr rfl }

theorem pulse (h : Stranded e₀ e) : Stranded e₀ e.pulse := by
  rwa [Engine.pulse_of_gated e (Engine.pulseGate_of_disabled h.silent)]

/-- Neither a firing nor a tick is refused, and neither ends the stranding. -/
theorem exec_next {s : State} {i : Instr} (h : Stranded e₀ s.eng)
    (hi : i = .pulse ∨ i = .engTick) : ∃ t, exec i s = .next t ∧ Stranded e₀ t.eng := by
  rcases hi with rfl | rfl
  · exact ⟨_, WritesEngine.pulse.exec_eq_next h.ready, h.pulse⟩
  · exact ⟨_, WritesEngine.tick.exec_eq_next h.ready, h.tick⟩

end Stranded

end Machine

end Sys2Proof

namespace Sys2Proof.Safety

open Sys2Proof.Machine

/-! ### The statements -/

/-- Settles O13: the shutdown strands the motion, and every firing and tick keeps it stranded. -/
theorem shutdownStrandsTheMotion : Obligations.ShutdownStrandsTheMotion := by
  intro s is hi hc hm hlt hstop his
  have hstart : Stranded s.eng s.eng.shutdown := ⟨hi, hc, hm, rfl, hlt, hstop, rfl, rfl⟩
  rw [run_cons is (WritesEngine.shutdown.exec_eq_next hi)]
  obtain ⟨t, hrun, ht⟩ := run_next_of_exec_next (P := fun u => Stranded s.eng u.eng)
    (fun i hmem u hu => hu.exec_next (his i hmem)) (s := s.withEng s.eng.shutdown) hstart
  exact ⟨t, hrun, ht.moving, ht.count, ht.stepOut⟩

/-- Settles O16: a staged Stop leaves count and target equal, so the gate is closed. -/
theorem stopSilencesThePulses : Obligations.StopSilencesThePulses := by
  intro s i n k hi hstop
  rcases hstop with rfl | rfl
  · exact ⟨_, WritesEngine.fastStop.exec_eq_next hi, rfl, rfl, fun _ => rfl,
      run_pulses_of_gated k (Engine.pulseGate_of_reached (BitVec.le_refl _))⟩
  · exact ⟨_, (WritesEngine.request .stop n).exec_eq_next hi, rfl, rfl, nofun,
      run_pulses_of_gated k (Engine.pulseGate_of_reached (BitVec.le_refl _))⟩

/-- Settles O17: the tick sees the staged Stop, so it disables the pulse hardware, and the motion
state decides where it ends. -/
theorem fastStopThenTick : Obligations.FastStopThenTick := by
  intro s hi hc hr
  have hstop : seenCmd s.eng.fastStop = .stop := rfl
  have hstate := Engine.tick_state (e := s.eng.fastStop) hc
  refine ⟨s.withEng s.eng.fastStop.tick, ?_, ?_, Engine.tick_disabled_of_stop hstop⟩
  · rw [run_cons _ (WritesEngine.fastStop.exec_eq_next hi)]
    exact run_cons [] (WritesEngine.tick.exec_eq_next (s := s.withEng s.eng.fastStop) hi)
  · rw [State.withEng_eng, hstate, hstop]
    change motionAfter s.eng.state _ _ _ = _
    cases hs : s.eng.state with
    | reserved7 => exact absurd hs hr
    | idle => rfl
    | rampStart => rfl
    | rampUp => rfl
    | rampStable => rfl
    | arrived => rfl
    | fault => rfl
    | faultInvalidDirection => rfl

/-- Settles O28: a tick in a fault state stays, and no other operation but ENG.INIT writes the
motion state. -/
theorem faultHoldsUntilEngInit : Obligations.FaultHoldsUntilEngInit := by
  intro is s t hfault hc hinit h
  refine (run_preserves (P := fun u => u.eng.state = s.eng.state ∧ u.eng.nextState = u.eng.state)
    ?_ ⟨rfl, hc⟩ h).1
  rintro i hmem u v ⟨hu, huc⟩ hx
  by_cases htick : i = .engTick
  · subst htick
    obtain ⟨-, rfl⟩ := engineOp_eq_next.mp hx
    refine ⟨?_, Engine.tick_committed u.eng⟩
    rw [State.withEng_eng, Engine.tick_state huc, hu]
    rcases hfault with hf | hf <;> rw [hf] <;> rfl
  · obtain ⟨hstate, hnext⟩ := exec_motion_frame htick (fun hi => hinit (hi ▸ hmem)) hx
    exact ⟨hstate.trans hu, hnext.trans (huc.trans hstate.symm)⟩

/-- Settles O11: ENG.INIT's record does not depend on the engine before. -/
theorem engInitWritesEveryRegister : Obligations.EngInitWritesEveryRegister :=
  ⟨rfl, fun _ => rfl⟩

/-- Settles O12: the shutdown's record is the three flags. -/
theorem engShutdownWritesThreeFlags : Obligations.EngShutdownWritesThreeFlags :=
  ⟨rfl, fun _ hi => WritesEngine.shutdown.exec_eq_next hi⟩

/-- Settles O14: the staged step count is the operand of a drive. -/
theorem engRequestStages : Obligations.EngRequestStages := by
  refine ⟨fun _ _ => rfl, ?_, fun _ _ _ _ => rfl⟩
  intro s c n hi
  rw [(WritesEngine.request c n).exec_eq_next hi, Engine.request_eq]
  simp only [stagedSteps, MotionCommand.isDrive_iff]
  rfl

/-- Settles O15: the fast stop's record is the staged Stop, the counters and the enable. -/
theorem engFastStopStagesStop : Obligations.EngFastStopStagesStop :=
  ⟨rfl, fun _ hi => WritesEngine.fastStop.exec_eq_next hi⟩

/-- Settles O18: the code of the state, for each of them. -/
theorem engGetStateReadsState : Obligations.EngGetStateReadsState := by
  refine ⟨rfl, ?_⟩
  intro s hi
  have hx : exec .engGetState s = .next (s.driveRdata s.eng.state) :=
    execEngGetState_eq_next.mpr ⟨hi, rfl⟩
  rw [hx, State.driveRdata]
  cases s.eng.state <;> rfl

/-- Settles O19: the period lies in the low bits of the word, and the setter writes its bound. -/
theorem engSetRampWritesItsBound : Obligations.EngSetRampWritesItsBound := by
  refine ⟨?_, ?_⟩
  · intro p
    exact ⟨congrArg PortWord.command (commandWord_period 0x7 p),
      congrArg PortWord.command (commandWord_period 0x8 p)⟩
  · intro s p hi
    exact ⟨(WritesEngine.setRampStart p).exec_eq_next hi,
      (WritesEngine.setRampEnd p).exec_eq_next hi⟩

end Sys2Proof.Safety
end

section
/-! PROOFS. The engine's tick: what it answers in each motion state, the motion states it moves
between, and a whole motion from its request to its end. -/

namespace Sys2Proof.Machine

open Sys2Proof.Safety

/-! ### The phases of a tick -/

/-- The pickup moves no state (41 R171). -/
@[simp] theorem pickedUp_state (e : Engine) : (pickedUp e).state = e.state := rfl

/-- The three phases, with the pickup register by register (41 R170). -/
theorem Engine.tick_eq (e : Engine) : e.tick = (pickedUp e).handler.commit := by
  rw [Engine.tick, Engine.pickup_eq]

/-- ENG.TICK on an initialised engine changes the engine record alone, by the three phases. -/
theorem exec_engTick {s : State} (hi : s.eng.engInit = true) :
    exec .engTick s = .next (s.withEng (pickedUp s.eng).handler.commit) :=
  execEngTick_of_init hi

/-- A tick starts a ramp, or it writes no more than the pickup's registers, the motion state, the
stable request and the two enables (41 R173 to R180). -/
theorem Engine.tick_cases (e : Engine) :
    (e.state = .rampStart ∧ (seenCmd e = .driveUp ∨ seenCmd e = .driveDown) ∧
      e.tick = (pickedUp e).startRamp.commit) ∨
    e.tick = { pickedUp e with
      state := e.tick.state
      nextState := e.tick.nextState
      stableReq := e.tick.stableReq
      pulseEn := e.tick.pulseEn
      drvEn := e.tick.drvEn } := by
  rw [Engine.tick_eq, Engine.handler, pickedUp_state]
  cases hst : e.state with
  | rampStart =>
    by_cases hdrive : seenCmd e = .driveUp ∨ seenCmd e = .driveDown
    · refine .inl ⟨rfl, hdrive, ?_⟩
      simp only [Engine.rampStartHandler, pickedUp_isDrive, hdrive, decide_true, if_true]
    · refine .inr ?_
      simp only [Engine.rampStartHandler, pickedUp_isDrive, hdrive, decide_false]
      rfl
  | rampUp =>
    refine .inr ?_
    simp only [Engine.rampUpHandler]
    split_ifs <;> rfl
  | rampStable =>
    refine .inr ?_
    simp only [Engine.rampStableHandler]
    split_ifs <;> rfl
  | idle => exact .inr rfl
  | arrived => exact .inr rfl
  | fault => exact .inr rfl
  | faultInvalidDirection => exact .inr rfl
  | reserved7 => exact .inr rfl

end Sys2Proof.Machine

namespace Sys2Proof.Safety

open Sys2Proof.Machine

/-! ### The statements about one motion state -/

/-- Settles O20: no handler writes the staged pair, and only a ramp's start writes the active one. -/
theorem tickPicksUpStagedCommand : Obligations.TickPicksUpStagedCommand := by
  intro s hi
  refine ⟨_, WritesEngine.tick.exec_eq_next hi, ?_⟩
  rw [State.withEng_eng]
  rcases s.eng.tick_cases with ⟨hst, hdrive, heq⟩ | heq
  · rw [heq]
    exact ⟨rfl, rfl, fun hno => absurd ⟨hst, hdrive⟩ hno⟩
  · rw [heq]
    exact ⟨rfl, rfl, fun _ => ⟨rfl, rfl⟩⟩

/-- Settles O21: both states run the idle handler. -/
theorem tickInIdleOrArrived : Obligations.TickInIdleOrArrived := by
  intro s hi hc hst
  have hhandler : (pickedUp s.eng).handler = (pickedUp s.eng).idleHandler := by
    rw [Engine.handler, pickedUp_state]
    rcases hst with h | h <;> rw [h]
  have hnext : (pickedUp s.eng).nextState = s.eng.state := hc
  rw [exec_engTick hi, hhandler]
  simp only [Engine.idleHandler, pickedUp_isDrive, decide_eq_true_eq, hnext]
  rfl

/-- Settles O22: RampStart without a drive raises the fault. -/
theorem tickInRampStartInvalid : Obligations.TickInRampStartInvalid := by
  intro s hi hst hup hdown
  have hno : ¬(seenCmd s.eng = .driveUp ∨ seenCmd s.eng = .driveDown) := not_or.mpr ⟨hup, hdown⟩
  rw [exec_engTick hi]
  simp only [Engine.handler, pickedUp_state, hst, Engine.rampStartHandler, pickedUp_isDrive, hno,
    decide_false]
  rfl

/-- Settles O23: RampStart with a drive starts the ramp. -/
theorem tickInRampStartDrive : Obligations.TickInRampStartDrive := by
  intro s hi hst hdrive
  rw [exec_engTick hi]
  simp only [Engine.handler, pickedUp_state, hst, Engine.rampStartHandler, pickedUp_isDrive, hdrive,
    decide_true, if_true]
  rfl

/-- Settles O24, by the branches of the RampUp handler in their order. -/
theorem tickInRampUp : Obligations.TickInRampUp := by
  intro s hi hc hst
  have hstay : (pickedUp s.eng).commit = pickedUp s.eng := engineCommit_eq_self hc
  rw [exec_engTick hi, Engine.handler, pickedUp_state, hst]
  simp only [Engine.rampUpHandler, apply_ite Engine.commit, hstay]
  rfl

/-- Settles O25, by the branches of the RampStable handler in their order. -/
theorem tickInRampStable : Obligations.TickInRampStable := by
  intro s hi hc hst
  have hstay : (pickedUp s.eng).commit = pickedUp s.eng := engineCommit_eq_self hc
  rw [exec_engTick hi, Engine.handler, pickedUp_state, hst]
  simp only [Engine.rampStableHandler, apply_ite Engine.commit, hstay]
  rfl

/-- Settles O26: a fault state only disables the pulse hardware, and the reserved code raises
Fault. -/
theorem tickInFaultOrReservedCode : Obligations.TickInFaultOrReservedCode := by
  refine ⟨?_, ?_⟩
  · intro s hi hc hst
    have hhandler : (pickedUp s.eng).handler = (pickedUp s.eng).disable := by
      rw [Engine.handler, pickedUp_state]
      rcases hst with h | h <;> rw [h]
    have hstay : (pickedUp s.eng).disable.commit = (pickedUp s.eng).disable :=
      engineCommit_eq_self hc
    rw [exec_engTick hi, hhandler, hstay]
    rfl
  · intro s hi hst
    rw [exec_engTick hi, Engine.handler, pickedUp_state, hst]
    rfl

/-! ### The transition relation -/

/-- Settles O27: a tick moves the motion state as `motionAfter` says, and only the tick and ENG.INIT
write it. -/
theorem motionStateTransitions : Obligations.MotionStateTransitions := by
  refine ⟨?_, fun s => ⟨_, rfl, rfl⟩, fun i s t => exec_motion_frame⟩
  intro s hi hc
  refine ⟨_, WritesEngine.tick.exec_eq_next hi, Engine.tick_committed _, fun q => ?_⟩
  rw [State.withEng_eng, Engine.tick_state hc]
  -- In each state the tests of `motionAfter` are the conditions of that state's rows in R182.
  cases hst : s.eng.state with
  | idle => simp only [motionAfter]; split_ifs <;> grind
  | arrived => simp only [motionAfter]; split_ifs <;> grind
  | rampStart => simp only [motionAfter]; cases seenCmd s.eng <;> grind
  | rampUp => simp only [motionAfter, decide_eq_true_eq]; split_ifs <;> grind
  | rampStable => simp only [motionAfter, decide_eq_true_eq]; split_ifs <;> grind
  | fault => simp only [motionAfter]; grind
  | faultInvalidDirection => simp only [motionAfter]; grind
  | reserved7 => simp only [motionAfter]; grind

end Sys2Proof.Safety

namespace Sys2Proof.Machine

open Sys2Proof.Safety

/-! ### A whole motion -/

/-- The engine that the two ticks after a drive request leave in Idle or Arrived: the ramp is started
(41 R183). -/
def motionStarted (e : Engine) (c : MotionCommand) (n : Steps) : Engine :=
  { e with
    state := .rampUp
    nextState := .rampUp
    activeCmd := .none
    activeSteps := 0
    nextCmd := .none
    nextSteps := 0
    count := 0
    target := n
    minPeriod := e.cfgStart
    maxPeriod := lesser e.cfgEnd e.cfgStart
    currentPeriod := e.cfgStart
    stableReq := false
    pulseEn := true
    drvEn := true
    drvSleep := false
    dir := decide (c = .driveUp) }

/-- The pickup of a staged drive (41 R171). -/
theorem pickedUp_driveStaged (e : Engine) {c : MotionCommand} (n : Steps) (hne : c ≠ .none) :
    pickedUp (driveStaged e c n) =
      { e with activeCmd := c, activeSteps := n, nextCmd := .none, nextSteps := 0 } := by
  simp [pickedUp, driveStaged, seenCmd, seenSteps, hne]

/-- A drive request in Idle or Arrived and two ticks start the motion (41 R183). -/
theorem run_start_motion {s : State} {c : MotionCommand} (n : Steps) (hi : s.eng.engInit = true)
    (hc : s.eng.nextState = s.eng.state) (hst : s.eng.state = .idle ∨ s.eng.state = .arrived)
    (hdrive : c = .driveUp ∨ c = .driveDown) :
    run [.engRequest (.command c) n, .engTick, .engTick] s =
      .next (s.withEng (motionStarted s.eng c n)) := by
  have hne : c ≠ .none := by rcases hdrive with rfl | rfl <;> nofun
  have hseen : seenCmd (driveStaged s.eng c n) = c := if_neg hne
  have hreq : exec (.engRequest (.command c) n) s = .next (s.withEng (driveStaged s.eng c n)) := by
    rw [(WritesEngine.request c n).exec_eq_next hi,
      Engine.request_drive _ _ ((MotionCommand.isDrive_iff c).mpr hdrive)]
  have hpick := tickInIdleOrArrived (s.withEng (driveStaged s.eng c n)) hi hc hst
  rw [State.withEng_eng, hseen, if_pos hdrive, pickedUp_driveStaged _ _ hne] at hpick
  rw [run_cons _ hreq, run_cons _ hpick]
  exact run_cons [] (tickInRampStartDrive _ hi rfl hdrive)

/-- One more counted pulse is one more toggle of the step output. -/
theorem not_bne_decide_odd (b : Bool) (m : Nat) :
    (!(b != decide (m % 2 = 1))) = (b != decide ((m + 1) % 2 = 1)) := by
  have h : decide ((m + 1) % 2 = 1) = !decide (m % 2 = 1) := by grind
  rw [h]
  cases b <;> simp

/-- The engine after `m` counted pulses from a zero count, with the period and the stable request
that they leave: the only registers the interrupt writes (42 R201, R203). -/
def pulsesCounted (e : Engine) (m : Nat) (period : Period) (stable : Bool) : Engine :=
  { e with
    stepOut := e.stepOut != decide (m % 2 = 1)
    count := BitVec.ofNat 32 m
    currentPeriod := period
    stableReq := stable }

/-- Before any pulse nothing is counted. -/
theorem pulsesCounted_zero {e : Engine} (h0 : e.count = 0) :
    pulsesCounted e 0 e.currentPeriod e.stableReq = e := by
  have hstep : (e.stepOut != decide (0 % 2 = 1)) = e.stepOut := by simp
  have hcount : BitVec.ofNat 32 0 = e.count := h0.symm
  rw [pulsesCounted, hstep, hcount]

/-- Below the target the next pulse is counted. -/
theorem pulse_pulsesCounted_of_lt {e : Engine} {m : Nat} (p : Period) (r : Bool)
    (hi : e.engInit = true) (hp : e.pulseEn = true) (hm : m < e.target.toNat) :
    ∃ p' r', (pulsesCounted e m p r).pulse = pulsesCounted e (m + 1) p' r' := by
  have hlt : (pulsesCounted e m p r).count < e.target := by
    change BitVec.ofNat 32 m < e.target
    bv_omega
  have hopen : (pulsesCounted e m p r).pulseGate = true :=
    (Engine.pulseGate_iff _).mpr ⟨hi, hp, hlt⟩
  rw [Engine.pulse_of_open _ hopen]
  simp only [pulsesCounted, not_bne_decide_odd, BitVec.ofNat_add]
  exact ⟨_, _, rfl⟩

/-- At the target a pulse changes nothing. -/
theorem pulse_pulsesCounted_target (e : Engine) (p : Period) (r : Bool) :
    (pulsesCounted e e.target.toNat p r).pulse = pulsesCounted e e.target.toNat p r := by
  refine Engine.pulse_of_gated _ (Engine.pulseGate_of_reached ?_)
  simp [pulsesCounted]

/-- Of `k` pulses from a zero count, those up to the target are counted (41 R184). -/
theorem iterate_pulse {e : Engine} (hi : e.engInit = true) (hp : e.pulseEn = true)
    (h0 : e.count = 0) (k : Nat) :
    ∃ p r, Engine.pulse^[k] e = pulsesCounted e (min k e.target.toNat) p r := by
  induction k with
  | zero => exact ⟨e.currentPeriod, e.stableReq, by rw [Nat.zero_min, pulsesCounted_zero h0]; rfl⟩
  | succ k ih =>
    obtain ⟨p, r, ih⟩ := ih
    rw [Function.iterate_succ_apply', ih]
    rcases Nat.lt_or_ge k e.target.toNat with hk | hk
    · rw [Nat.min_eq_left hk.le, Nat.min_eq_left hk]
      exact pulse_pulsesCounted_of_lt p r hi hp hk
    · rw [Nat.min_eq_right hk, Nat.min_eq_right (Nat.le_succ_of_le hk)]
      exact ⟨p, r, pulse_pulsesCounted_target e p r⟩

/-- Outside RampStart a tick keeps the count, the step output and the direction. -/
theorem Engine.tick_keeps_counters {e : Engine} (hst : e.state ≠ .rampStart) :
    e.tick.count = e.count ∧ e.tick.stepOut = e.stepOut ∧ e.tick.dir = e.dir := by
  rcases e.tick_cases with ⟨h, -⟩ | heq
  · exact absurd h hst
  · rw [heq]
    exact ⟨rfl, rfl, rfl⟩

/-- A tick in RampUp that sees no command arrives exactly when the target is reached, and stays in
the motion otherwise (41 R176). -/
theorem Engine.tick_rampUp_of_no_command {e : Engine} (hc : e.nextState = e.state)
    (hst : e.state = .rampUp) (hseen : seenCmd e = .none) :
    (e.tick.state = .arrived ↔ e.target ≤ e.count) ∧
    (e.tick.state = .arrived ∨ e.tick.state = .rampUp ∨ e.tick.state = .rampStable) := by
  rw [Engine.tick_state hc, hst, hseen]
  by_cases hreached : e.target ≤ e.count
  · simp [motionAfter, hreached]
  · cases e.stableReq <;> simp [motionAfter, hreached]

end Sys2Proof.Machine

namespace Sys2Proof.Safety

open Sys2Proof.Machine

/-- Settles O34: the two ticks start the ramp, the pulses up to the target are counted, and the last
tick compares the count with the target. -/
theorem motionArrivesAfterExactlyItsPulses : Obligations.MotionArrivesAfterExactlyItsPulses := by
  intro s c n k hi hc hst hdrive
  obtain ⟨p, r, hpulses⟩ := iterate_pulse (e := motionStarted s.eng c n) hi rfl rfl k
  generalize he : pulsesCounted (motionStarted s.eng c n) (min k n.toNat) p r = e
  have hrun : run (List.replicate k .pulse) (s.withEng (motionStarted s.eng c n)) =
      .next (s.withEng e) := by
    rw [run_pulses, State.withEng_eng, hpulses, ← he]
    rfl
  have hinit : e.engInit = true := by rw [← he]; exact hi
  have hramp : e.state = .rampUp := by rw [← he]; rfl
  have hcommitted : e.nextState = e.state := by rw [← he]; rfl
  have hseen : seenCmd e = .none := by rw [← he]; rfl
  have htarget : e.target = n := by rw [← he]; rfl
  have hcount : e.count.toNat = min k n.toNat := by
    rw [← he]
    change (BitVec.ofNat 32 (min k n.toNat)).toNat = _
    rw [BitVec.toNat_ofNat]
    omega
  have hreached : e.target ≤ e.count ↔ n.toNat ≤ k := by
    rw [htarget, BitVec.le_def, hcount]
    omega
  obtain ⟨harrived, hends⟩ := Engine.tick_rampUp_of_no_command hcommitted hramp hseen
  obtain ⟨htickCount, htickStep, htickDir⟩ :=
    Engine.tick_keeps_counters (e := e) (by rw [hramp]; nofun)
  refine ⟨s.withEng e.tick, ?_, harrived.trans hreached, hends, ?_, ?_, ?_⟩
  · rw [List.append_assoc, run_append _ (run_start_motion n hi hc hst hdrive), run_append _ hrun]
    exact run_cons [] (WritesEngine.tick.exec_eq_next (s := s.withEng e) hinit)
  · rw [State.withEng_eng, htickCount, hcount]
  · rw [State.withEng_eng, htickStep, ← he]
    rfl
  · rw [State.withEng_eng, htickDir, ← he]
    rfl

end Sys2Proof.Safety
end

section
/-! PROOFS. The pulse event: what one firing does to the engine, and the number of firings after
which a ramp is at its cruise period. -/

namespace Sys2Proof.Machine

/-! ### One firing -/

/-- PULSE is never refused and rewrites the engine alone (42 R200). -/
theorem exec_pulse (s : State) : exec .pulse s = .next (s.withEng s.eng.pulse) := rfl

/-- The gate is closed when one of its three conditions fails (42 R200). -/
theorem Engine.pulseGate_eq_false {e : Engine}
    (h : ¬(e.engInit = true ∧ e.pulseEn = true ∧ e.count < e.target)) : e.pulseGate = false :=
  Bool.eq_false_iff.mpr (mt e.pulseGate_iff.mp h)

/-- The period after an effective pulse is the cruise period or one decrement below the period
before, whichever is larger (42 R203). -/
theorem Engine.nextPeriod_toNat {e : Engine} (h : e.maxPeriod ≤ e.currentPeriod) :
    e.nextPeriod.toNat =
      max e.maxPeriod.toNat (e.currentPeriod.toNat - e.stepDecrement.toNat) := by
  unfold Engine.nextPeriod
  split
  · split <;> bv_omega
  · bv_omega

/-- The period an effective pulse leaves (42 R203). -/
theorem Engine.pulse_currentPeriod {e : Engine} (h : e.pulseGate = true) :
    e.pulse.currentPeriod = if e.state = .rampUp then e.nextPeriod else e.currentPeriod := by
  rw [Engine.pulse_of_open e h]

/-- Testing for RampUp and for a period above the cruise period at once leaves the same period:
`nextPeriod` keeps a period that is not above it (42 R203). -/
theorem Engine.ite_rampUp_above_cruise (e : Engine) :
    (if e.state = .rampUp ∧ e.currentPeriod > e.maxPeriod then
        if e.currentPeriod - e.maxPeriod > e.stepDecrement then e.currentPeriod - e.stepDecrement
        else e.maxPeriod
      else e.currentPeriod) =
      if e.state = .rampUp then e.nextPeriod else e.currentPeriod := by
  by_cases hs : e.state = .rampUp
  · simp only [hs, true_and, if_true, Engine.nextPeriod, gt_iff_lt]
  · simp only [hs, false_and, if_false]

/-! ### A ramp -/

/-- The engine `k` effective pulses into a ramp that began as `e₀`: the period has lost `k`
decrements, cut short at the cruise period, and the stable request is there once a pulse has
reached it (42 R203, R204). -/
structure Ramped (e₀ : Engine) (k : Nat) (e : Engine) : Prop where
  initialised : e.engInit = true
  enabled : e.pulseEn = true
  rampUp : e.state = .rampUp
  target : e.target = e₀.target
  cruise : e.maxPeriod = e₀.maxPeriod
  decrement : e.stepDecrement = e₀.stepDecrement
  count : e.count.toNat = e₀.count.toNat + k
  period : e.currentPeriod.toNat =
    max e₀.maxPeriod.toNat (e₀.currentPeriod.toNat - k * e₀.stepDecrement.toNat)
  stable : e.stableReq = true ↔
    1 ≤ k ∧ e₀.currentPeriod.toNat ≤ e₀.maxPeriod.toNat + k * e₀.stepDecrement.toNat

namespace Ramped

variable {e₀ e : Engine} {k : Nat}

/-- Before the first pulse of a ramp. -/
theorem zero (hi : e₀.engInit = true) (hp : e₀.pulseEn = true) (hs : e₀.state = .rampUp)
    (hr : e₀.stableReq = false) (hle : e₀.maxPeriod ≤ e₀.currentPeriod) : Ramped e₀ 0 e₀ where
  initialised := hi
  enabled := hp
  rampUp := hs
  target := rfl
  cruise := rfl
  decrement := rfl
  count := rfl
  period := by bv_omega
  stable := by simp [hr]

/-- The gate stays open up to the target (42 R200). -/
theorem gate_open (h : Ramped e₀ k e) (hk : e₀.count.toNat + k < e₀.target.toNat) :
    e.pulseGate = true := by
  refine e.pulseGate_iff.mpr ⟨h.initialised, h.enabled, ?_⟩
  rwa [BitVec.lt_def, h.count, h.target]

/-- One more decrement, cut short at the cruise period. -/
theorem nextPeriod (h : Ramped e₀ k e) :
    e.nextPeriod.toNat =
      max e₀.maxPeriod.toNat (e₀.currentPeriod.toNat - (k + 1) * e₀.stepDecrement.toNat) := by
  have hle : e.maxPeriod ≤ e.currentPeriod := by
    rw [BitVec.le_def, h.cruise, h.period]
    exact Nat.le_max_left _ _
  rw [Engine.nextPeriod_toNat hle, h.cruise, h.decrement, h.period, Nat.add_one_mul]
  omega

/-- The next pulse lands on the cruise period exactly when the decrements cover the distance. -/
theorem nextPeriod_eq_cruise (h : Ramped e₀ k e) :
    e.nextPeriod = e.maxPeriod ↔
      e₀.currentPeriod.toNat ≤ e₀.maxPeriod.toNat + (k + 1) * e₀.stepDecrement.toNat := by
  rw [← BitVec.toNat_inj, h.nextPeriod, h.cruise]
  omega

/-- A pulse below the target goes one step further into the ramp; a request that is there stays. -/
theorem pulse (h : Ramped e₀ k e) (hk : e₀.count.toNat + k < e₀.target.toNat) :
    Ramped e₀ (k + 1) e.pulse := by
  have hcount := h.count
  rw [Engine.pulse_of_open e (h.gate_open hk)]
  refine { h with count := ?_, period := ?_, stable := ?_ }
  · bv_omega
  · simpa only [h.rampUp, if_true] using h.nextPeriod
  · simp only [h.rampUp, true_and, Bool.or_eq_true, decide_eq_true_eq, h.stable,
      h.nextPeriod_eq_cruise, Nat.add_one_mul]
    omega

/-- `k` pulses up to the target go `k` steps into the ramp. -/
theorem iterate_pulse (h : Ramped e₀ 0 e₀) (hk : e₀.count.toNat + k ≤ e₀.target.toNat) :
    Ramped e₀ k (Engine.pulse^[k] e₀) := by
  induction k with
  | zero => exact h
  | succ k ih =>
    rw [Function.iterate_succ_apply']
    exact (ih (by omega)).pulse hk

end Ramped

/-- The ceiling of 42 R204 as a bound on the decrements: `k` of them cover the distance, and there
is at least one pulse. -/
theorem max_one_ceil_le_iff {a b d k : Nat} (hd : 1 ≤ d) :
    max 1 ((a - b + d - 1) / d) ≤ k ↔ 1 ≤ k ∧ a ≤ b + k * d := by
  rw [← Nat.ceilDiv_eq_add_pred_div, max_le_iff, ceilDiv_le_iff_le_mul hd, Nat.sub_le_iff_le_add',
    Nat.mul_comm]

end Sys2Proof.Machine

namespace Sys2Proof.Safety

open Sys2Proof.Machine

/-! ### The statements about the pulse -/

/-- Settles O33: `Ramped` holds after k pulses, and its stable request is the ceiling's bound. -/
theorem pulsesOfARamp : Obligations.PulsesOfARamp := by
  intro s k hi hp hs hr hstart hle hd hk
  have hramped : Ramped s.eng k (Engine.pulse^[k] s.eng) :=
    (Ramped.zero hi hp hs hr (hstart ▸ hle)).iterate_pulse hk
  refine ⟨_, run_pulses k s, hramped.stable.trans ?_⟩
  rw [hstart, max_one_ceil_le_iff hd]

/-- Settles O32: the period after the pulse is the larger of the cruise period and the period less a
decrement of at least 1. -/
theorem rampIsMonotone : Obligations.RampIsMonotone := by
  intro s hi hp hlt hle hd
  have hperiod := Engine.pulse_currentPeriod (s.eng.pulseGate_iff.mpr ⟨hi, hp, hlt⟩)
  refine ⟨s.withEng s.eng.pulse, rfl, ?_⟩
  rw [State.withEng_eng, hperiod]
  by_cases hs : s.eng.state = .rampUp
  · have hnext := Engine.nextPeriod_toNat hle
    rw [if_pos hs]
    refine ⟨(s.eng.nextPeriod_bounds hle).1, fun _ habove => by bv_omega, ?_⟩
    rintro (hne | heq)
    · exact absurd hs hne
    · rw [nextPeriod_at_cruise heq, heq]
  · rw [if_neg hs]
    exact ⟨hle, fun hup => absurd hup hs, fun _ => rfl⟩

/-- Settles O30: a closed gate leaves the engine as it is; an open one leaves the period of the
statement's test. -/
theorem pulseStepsAndRamps : Obligations.PulseStepsAndRamps := by
  refine ⟨rfl, fun s hgate => ?_, fun s p hi hp hlt hperiod => ?_⟩
  · rw [exec_pulse, Engine.pulse_of_gated _ (Engine.pulseGate_eq_false hgate)]
    rfl
  · rw [Engine.ite_rampUp_above_cruise] at hperiod
    rw [exec_pulse, Engine.pulse_of_open _ (s.eng.pulseGate_iff.mpr ⟨hi, hp, hlt⟩), hperiod]
    by_cases hs : s.eng.state = .rampUp
    · rw [if_pos hs]
      rfl
    · simp only [hs, false_and, if_false]
      rfl

end Sys2Proof.Safety
end

section
/-! PROOFS. The application's operations: what each handler of APP.TICK outside the jog states
answers, the application states a tick moves between, and how far the application reaches the
engine. -/

namespace Sys2Proof.Machine

open Sys2Proof.Safety

/-! ### The handlers of normal mode and of the homing of the setup wizard -/

/-- Init: the fast stop at the top switch overwrites the homing drive (43 R220). -/
theorem initHandler_eq (c : Config) (s : State) :
    initHandler c s = { s with
      eng :=
        if s.pins.topLimit then fastStopped s.eng
        else if s.app.initFirst then driveStaged s.eng .driveUp c.homingSteps
        else s.eng
      app :=
        if s.pins.topLimit then
          { s.app with
            initFirst := false, current := .floor2, last := .floor2, appNextState := .idle }
        else { s.app with initFirst := false } } := by
  simp only [initHandler, homingRequest_eq]
  cases s.pins.topLimit <;> cases s.app.initFirst <;> rfl

/-- SetupInit: the same homing, on the way to the first jog state (44 R250). -/
theorem setupInitHandler_eq (c : Config) (s : State) :
    setupInitHandler c s = { s with
      eng :=
        if s.pins.topLimit then fastStopped s.eng
        else if s.app.initFirst then driveStaged s.eng .driveUp c.homingSteps
        else s.eng
      app :=
        if s.pins.topLimit then
          { s.app with initFirst := false, setupSteps := 0, appNextState := .setupFloor21 }
        else { s.app with initFirst := false } } := by
  simp only [setupInitHandler, homingRequest_eq]
  cases s.pins.topLimit <;> cases s.app.initFirst <;> rfl

/-- The floor table reads and writes no button flag, so the flags may be taken after it. -/
theorem applyFloorTable_withBtn (s : State) (b : Buttons) :
    applyFloorTable (s.withBtn b) = (applyFloorTable s).withBtn b := by
  unfold applyFloorTable
  rw [State.withBtn_app]
  cases floorMove s.app <;> rfl

/-- Idle: the floor table on a short press, and the flags (43 R222). -/
theorem idleHandler_eq (s : State) :
    idleHandler s = (if s.btn.btnShort then applyFloorTable s else s).withBtn (idleFlags s.btn) := by
  obtain ⟨eng, app, ⟨short, long, rep⟩, store, pins, rdata, port, free⟩ := s
  cases short <;> cases long <;>
    simp [idleHandler, Buttons.takeShort, Buttons.takeLong, applyFloorTable_withBtn, idleFlags] <;>
    rfl

/-- A driving handler writes the engine and the application's registers alone. -/
theorem drivingHandler_frame (limit : Bool) (s : State) :
    drivingHandler limit s =
      (s.withEng (drivingHandler limit s).eng).withApp (drivingHandler limit s).app := by
  unfold drivingHandler
  cases limit <;> by_cases h : s.eng.state = .arrived <;> simp only [h, if_true, if_false] <;> rfl

/-! ### What APP.TICK answers -/

/-- APP.TICK is the handler that the state selects, and the commit (43 R216, R217). -/
theorem exec_appTick_of_handler {s t : State} (hr : Ready s)
    (hh : appHandler Config.params s = t) : exec .appTick s = .next (t.withApp t.app.commit) := by
  rw [← hh]
  exact execAppTick_of_ready hr

/-- APP.TICK in a driving state, by the limit test of its handler (43 R225, R226). -/
theorem exec_appTick_of_driving {s : State} {limit : Bool} (hr : Ready s)
    (hc : s.app.appNextState = s.app.appState)
    (hh : appHandler Config.params s = drivingHandler limit s) :
    exec .appTick s = .next { s with
      eng := if limit = true then fastStopped s.eng else s.eng
      app :=
        if limit = true ∨ s.eng.state = .arrived then
          movedTo { s.app with ledMoving := false } .idle
        else s.app } := by
  rw [exec_appTick_of_handler hr hh, drivingHandler_frame, drivingHandler_eng, drivingHandler_app,
    State.withApp_app, apply_ite App.commit, appCommit_eq_self hc]
  rfl

/-- APP.TICK in Idle without a short press (43 R222). -/
theorem exec_appTick_of_no_press {s : State} (hr : Ready s) (hq : s.app.appState = .idle)
    (hc : s.app.appNextState = s.app.appState) (hp : s.btn.btnShort = false) :
    exec .appTick s = .next { s with btn := idleFlags s.btn } := by
  have hh : appHandler Config.params s = s.withBtn (idleFlags s.btn) := by
    simp [appHandler, hq, idleHandler_eq, hp]
  rw [exec_appTick_of_handler hr hh, State.withBtn_app, appCommit_eq_self hc]
  rfl

/-- APP.TICK in Idle with a short press: the row of the floor table, if there is one
(43 R222, R223). -/
theorem exec_appTick_of_press {s : State} (hr : Ready s) (hq : s.app.appState = .idle)
    (hc : s.app.appNextState = s.app.appState) (hp : s.btn.btnShort = true) :
    exec .appTick s = .next ((floorMove s.app).elim { s with btn := idleFlags s.btn }
      fun m => afterPress s m.next m.cmd m.steps m.current m.last) := by
  have hh : appHandler Config.params s = (applyFloorTable s).withBtn (idleFlags s.btn) := by
    simp [appHandler, hq, idleHandler_eq, hp]
  rw [exec_appTick_of_handler hr hh]
  unfold applyFloorTable
  cases hm : floorMove s.app with
  | none =>
    dsimp only
    rw [State.withBtn_app, appCommit_eq_self hc]
    rfl
  | some m =>
    have hd := floorMove_isDrive hm
    simp only [State.request, Engine.request_drive _ _ hd]
    rfl

/-! ### The state a handler stages -/

/-- The rows of the floor table by the state they lead to (43 R223). -/
theorem floorMove_elim_next (a : App) (q : AppState) :
    (floorMove a).elim q FloorMove.next =
      if a.current = .floor2 ∨ (a.current = .floor1 ∧ a.last = .floor2) then .drivingDown
      else if a.current = .floor0 ∨ (a.current = .floor1 ∧ a.last = .floor0) then .drivingUp
      else q := by
  unfold floorMove
  cases a.current <;> cases a.last <;> rfl

theorem idleHandler_appNextState (s : State) :
    (idleHandler s).app.appNextState =
      if s.btn.btnShort then (floorMove s.app).elim s.app.appNextState FloorMove.next
      else s.app.appNextState := by
  rw [idleHandler_eq, State.withBtn_app]
  unfold applyFloorTable
  cases s.btn.btnShort <;> cases floorMove s.app <;> rfl

theorem initHandler_appNextState (c : Config) (s : State) :
    (initHandler c s).app.appNextState =
      if s.pins.topLimit then .idle else s.app.appNextState := by
  rw [initHandler_eq]
  cases s.pins.topLimit <;> rfl

theorem setupInitHandler_appNextState (c : Config) (s : State) :
    (setupInitHandler c s).app.appNextState =
      if s.pins.topLimit then .setupFloor21 else s.app.appNextState := by
  rw [setupInitHandler_eq]
  cases s.pins.topLimit <;> rfl

theorem drivingHandler_appNextState (limit : Bool) (s : State) :
    (drivingHandler limit s).app.appNextState =
      if limit = true ∨ s.eng.state = .arrived then .idle else s.app.appNextState := by
  rw [drivingHandler_app]
  split <;> rfl

theorem releaseTest_appNextState (s : State) :
    (releaseTest s).app.appNextState =
      if s.pins.modeSel then s.app.appNextState
      else if s.app.appState = .setupFloor21 then .setupFloor10 else .init := by
  simp only [releaseTest]
  split_ifs <;> rfl

/-- What the two commits of the wizard share: the release is awaited from now on, and neither the
state nor the inputs move (44 R253, R255). -/
structure AwaitsRelease (commit : State → State) : Prop where
  awaiting (s : State) : (commit s).app.awaitRelease = true
  appState (s : State) : (commit s).app.appState = s.app.appState
  appNextState (s : State) : (commit s).app.appNextState = s.app.appNextState
  pins (s : State) : (commit s).pins = s.pins

theorem AwaitsRelease.commitFloor21 (c : Config) : AwaitsRelease (commitFloor21 c) :=
  ⟨fun _ => rfl, fun _ => rfl, fun _ => rfl, fun _ => rfl⟩

theorem AwaitsRelease.commitFloor10 (c : Config) : AwaitsRelease (commitFloor10 c) :=
  ⟨fun _ => rfl, fun _ => rfl, fun _ => rfl, fun _ => rfl⟩

/-- A jog state is left by the release test alone, which the tick of the long press reaches too
(44 R256). -/
theorem setupFloorHandler_appNextState {commit : State → State} (hcommit : AwaitsRelease commit)
    (s : State) :
    (setupFloorHandler Config.params commit s).app.appNextState =
      if (s.app.awaitRelease = true ∨ s.btn.btnLong = true) ∧ s.pins.modeSel = false then
        if s.app.appState = .setupFloor21 then .setupFloor10 else .init
      else s.app.appNextState := by
  simp only [setupFloorHandler, takePresses_eq]
  cases ha : s.app.awaitRelease
  case true => simp [ha, releaseTest_appNextState, ← Bool.not_eq_true]
  case false =>
    cases s.btn.btnLong
    case false => simp [beforeCommit, ha]
    case true =>
      simp [hcommit.awaiting, hcommit.appState, hcommit.appNextState, hcommit.pins,
        releaseTest_appNextState, beforeCommit, ← Bool.not_eq_true]

/-- A state that moves to one other state, under one condition. -/
theorem ite_moves_iff {P : Prop} [Decidable P] {p a q : AppState} (hne : p ≠ a) :
    (if P then p else a) = q ∧ q ≠ a ↔ q = p ∧ P := by
  split_ifs with h
  · exact ⟨fun ⟨hp, _⟩ => ⟨hp.symm, h⟩, fun ⟨hp, _⟩ => ⟨hp.symm, hp ▸ hne⟩⟩
  · exact ⟨fun ⟨ha, hq⟩ => absurd ha.symm hq, fun ⟨_, hP⟩ => absurd hP h⟩

/-! ### Operations other than APP.TICK -/

/-- An operation that rewrites the engine is guarded by ENG.INIT or runs in every state
(70 R332). -/
theorem WritesEngine.init_or_always {i : Instr} {f : Engine → Engine} {s t : State}
    (hw : WritesEngine i f) (h : exec i s = .next t) :
    s.eng.engInit = true ∨ ∀ u, exec i u = .next (u.withEng (f u.eng)) := by
  cases hw with
  | init => exact .inr fun _ => rfl
  | reserved code n => exact .inr fun _ => rfl
  | pulse => exact .inr fun _ => rfl
  | shutdown => exact .inl (engineOp_eq_next.mp h).1
  | request c n => exact .inl (engineOp_eq_next (f := fun e => e.request c n).mp h).1
  | fastStop => exact .inl (engineOp_eq_next.mp h).1
  | tick => exact .inl (engineOp_eq_next.mp h).1
  | setRampStart p => exact .inl (engineOp_eq_next (f := fun e => { e with cfgStart := p }).mp h).1
  | setRampEnd p => exact .inl (engineOp_eq_next (f := fun e => { e with cfgEnd := p }).mp h).1

end Sys2Proof.Machine

namespace Sys2Proof.Safety

open Sys2Proof.Machine

/-! ### The statements about one application state -/

/-- Settles O39, by the definition of APP.INIT's registers. -/
theorem appInitLoadsCalibration : Obligations.AppInitLoadsCalibration :=
  ⟨by decide, fun _ => rfl⟩

/-- Settles O40, by what Init writes and the commit. -/
theorem appTickInInit : Obligations.AppTickInInit := by
  intro s hr hq hc
  have hh : appHandler Config.params s = initHandler Config.params s := by
    simp only [appHandler, hq]
  have hsame := appCommit_eq_self (a := { s.app with initFirst := false }) hc
  rw [exec_appTick_of_handler hr hh, initHandler_eq, apply_ite App.commit, hsame]
  rfl

/-- Settles O41, by the short press and the row of the floor table. -/
theorem appTickInIdle : Obligations.AppTickInIdle := by
  refine ⟨fun s => exec_appTick_of_no_press, fun s hr hq hc hp => ?_⟩
  rw [exec_appTick_of_press hr hq hc hp]
  unfold floorMove
  cases s.app.current with
  | floor0 => rfl
  | floor1 => cases s.app.last <;> rfl
  | floor2 => rfl
  | reserved3 => rfl

/-- Settles O42: the limit of DrivingUp is the top switch. -/
theorem appTickInDrivingUp : Obligations.AppTickInDrivingUp := by
  intro s hr hq hc
  exact exec_appTick_of_driving hr hc (by simp only [appHandler, hq, drivingUpHandler])

/-- Settles O43: the limit of DrivingDown is the bottom switch under the policy. -/
theorem appTickInDrivingDown : Obligations.AppTickInDrivingDown := by
  intro s hr hq hc
  have h := exec_appTick_of_driving (limit := Config.params.downLimitAbort && s.pins.bottomLimit)
    hr hc (by simp only [appHandler, hq, drivingDownHandler])
  simpa only [Bool.and_eq_true] using h

/-- Settles O49: no handler runs, and the commit moves nothing. -/
theorem appTickInReservedCode : Obligations.AppTickInReservedCode := by
  intro s hr hq hc
  have hh : appHandler Config.params s = s := by simp only [appHandler, hq]
  rw [exec_appTick_of_handler hr hh, appCommit_eq_self hc]
  rfl

/-! ### The transition relation -/

/-- Settles O50: the tick commits the state its handler stages, one test in each state but Idle,
where the floor table gives two. -/
theorem appStateTransitions : Obligations.AppStateTransitions := by
  intro s hr hc
  refine ⟨_, execAppTick_of_ready hr, rfl, fun q => ?_⟩
  show (appHandler Config.params s).app.appNextState = q ∧ _ ↔ _
  unfold appHandler
  cases hq : s.app.appState <;> rw [hq] at hc <;>
    simp only [reduceCtorEq, false_and, true_and, false_or, or_false]
  case init =>
    rw [initHandler_appNextState, hc]
    exact ite_moves_iff nofun
  case idle =>
    rw [idleHandler_appNextState, floorMove_elim_next, hc]
    split_ifs <;> grind
  case drivingUp =>
    rw [drivingUpHandler, drivingHandler_appNextState, hc, or_comm (a := s.eng.state = .arrived)]
    exact ite_moves_iff nofun
  case drivingDown =>
    rw [drivingDownHandler, drivingHandler_appNextState, hc, or_comm (a := s.eng.state = .arrived),
      ← Bool.and_eq_true]
    exact ite_moves_iff nofun
  case setupInit =>
    rw [setupInitHandler_appNextState, hc]
    exact ite_moves_iff nofun
  case setupFloor21 =>
    rw [setupFloor21Handler, setupFloorHandler_appNextState (.commitFloor21 _), hc, hq, if_pos rfl]
    exact ite_moves_iff nofun
  case setupFloor10 =>
    have hne : AppState.setupFloor10 ≠ .setupFloor21 := nofun
    rw [setupFloor10Handler, setupFloorHandler_appNextState (.commitFloor10 _), hc, hq, if_neg hne]
    exact ite_moves_iff nofun
  case reserved7 => simp [hc, eq_comm]

/-! ### The engine and the application -/

/-- Settles O51, by what the nested commands can do to the engine. -/
theorem appTickReachesEngineByCommandsOnly :
    Obligations.AppTickReachesEngineByCommandsOnly := by
  intro s t h
  obtain ⟨-, rfl⟩ := execAppTick_eq_next.mp h
  have hcmd := Commanded.appTick s
  generalize (appTick Config.params s).eng = e at hcmd
  cases hcmd with
  | same => exact ⟨rfl, .inl rfl⟩
  | stopped => exact ⟨rfl, .inr (.inl rfl)⟩
  | staged c n hd =>
    rcases (MotionCommand.isDrive_iff c).mp hd with rfl | rfl
    · exact ⟨rfl, .inr (.inr (.inl ⟨n, rfl⟩))⟩
    · exact ⟨rfl, .inr (.inr (.inr ⟨n, rfl⟩))⟩

/-- Settles O53: what an operation other than APP.TICK does to the engine, and whether it is
refused, is a function of the engine. -/
theorem engineBlindToApplication : Obligations.EngineBlindToApplication := by
  intro i s t s' hi he h
  rcases exec_cases h with ⟨f, hw, rfl⟩ | ⟨rfl, rfl⟩ | ⟨rfl, a, rfl⟩ | ⟨rfl, -⟩ | ⟨hb, b, rfl⟩
  · have hx : exec i s' = .next (s'.withEng (f s'.eng)) := by
      rcases hw.init_or_always h with hinit | halways
      · exact hw.exec_eq_next (by rw [he]; exact hinit)
      · exact halways s'
    exact ⟨_, hx, by rw [State.withEng_eng, State.withEng_eng, he]⟩
  · have hinit : s'.eng.engInit = true := by rw [he]; exact (execEngGetState_eq_next.mp h).1
    exact ⟨_, execEngGetState_eq_next.mpr ⟨hinit, rfl⟩, he⟩
  · exact ⟨_, rfl, he⟩
  · exact absurd rfl hi
  · simp only [List.mem_cons, List.not_mem_nil, or_false] at hb
    rcases hb with rfl | rfl | rfl <;> exact ⟨_, rfl, he⟩

end Sys2Proof.Safety
end

section
/-! PROOFS. The setup wizard: what APP.TICK answers in its states, and the count that a number of
short presses and a long one store. -/

namespace Sys2Proof.Machine

open Sys2Proof.Safety

/-! ### The handler of a jog state, by what it finds -/

/-- The handler of each jog state is the shared one, with a commit that awaits the release. -/
theorem appHandler_of_isSetupFloor {s : State} (hq : isSetupFloor s.app.appState) :
    ∃ commit, AwaitsRelease commit ∧
      appHandler Config.params s = setupFloorHandler Config.params commit s := by
  rcases hq with hq | hq
  · exact ⟨_, .commitFloor21 Config.params, by simp only [appHandler, hq, setupFloor21Handler]⟩
  · exact ⟨_, .commitFloor10 Config.params, by simp only [appHandler, hq, setupFloor10Handler]⟩

/-- While a release is awaited no press is taken (44 R252). -/
theorem setupFloorHandler_of_awaiting (commit : State → State) {s : State}
    (ha : s.app.awaitRelease = true) :
    setupFloorHandler Config.params commit s = releaseTest s := by
  simp only [setupFloorHandler, ha, if_true]

/-- Without a long press there is no commit and no release test (44 R252). -/
theorem setupFloorHandler_of_no_long (commit : State → State) {s : State}
    (ha : s.app.awaitRelease = false) (hl : s.btn.btnLong = false) :
    setupFloorHandler Config.params commit s = beforeCommit s := by
  simp [setupFloorHandler, takePresses_eq, beforeCommit, ha, hl]

/-- The release test sees the flag that the commit of a long press sets (44 R252, R256). -/
theorem setupFloorHandler_of_long {commit : State → State} (hcommit : AwaitsRelease commit)
    {s : State} (ha : s.app.awaitRelease = false) (hl : s.btn.btnLong = true) :
    setupFloorHandler Config.params commit s = releaseTest (commit (beforeCommit s)) := by
  simp [setupFloorHandler, takePresses_eq, ha, hl, hcommit.awaiting]

/-- The release test, committed: held, nothing; released, the jog state is left (44 R256). -/
theorem releaseTest_committed {s : State} (hc : s.app.appNextState = s.app.appState) :
    (releaseTest s).withApp (releaseTest s).app.commit =
      if s.pins.modeSel = true then s
      else if s.app.appState = .setupFloor21 then
        { s with btn := noFlags, app := leftSetup s.app .setupFloor10 }
      else { s with btn := noFlags, app := leftSetup { s.app with initFirst := true } .init } := by
  unfold releaseTest
  split_ifs with hm
  · rw [appCommit_eq_self hc]
    rfl
  · rfl
  · rfl

/-- APP.TICK in a jog state with a long press: the jog, the commit and the release test in one
tick (44 R252, R256). -/
theorem exec_appTick_of_long {commit : State → State} (hcommit : AwaitsRelease commit)
    {s u : State} (hr : Ready s) (hc : s.app.appNextState = s.app.appState) (ha : s.app.awaitRelease = false)
    (hl : s.btn.btnLong = true)
    (hh : appHandler Config.params s = setupFloorHandler Config.params commit s)
    (hu : commit (beforeCommit s) = u) :
    exec .appTick s = .next (if s.pins.modeSel = true then u
      else if s.app.appState = .setupFloor21 then
        { u with btn := noFlags, app := leftSetup u.app .setupFloor10 }
      else { u with btn := noFlags, app := leftSetup { u.app with initFirst := true } .init }) := by
  subst hu
  rw [setupFloorHandler_of_long hcommit ha hl] at hh
  have hstaged : (commit (beforeCommit s)).app.appNextState =
      (commit (beforeCommit s)).app.appState := by
    rw [hcommit.appNextState, hcommit.appState]
    exact hc
  rw [exec_appTick_of_handler hr hh, releaseTest_committed hstaged, hcommit.pins, hcommit.appState]
  rfl

/-! ### Any number of jogs -/

/-- Repeated jogs write the engine and add to the accumulator, modulo 2^16 (44 R252); the engine
stays initialised. -/
theorem iterate_jog (c : Config) (n : Nat) (s : State) :
    ∃ e, e.engInit = s.eng.engInit ∧ (jog c)^[n] s = { s with
      eng := e
      app := { s.app with
        setupSteps := s.app.setupSteps + BitVec.ofNat 16 (n * c.jogSteps.toNat) } } := by
  induction n with
  | zero => exact ⟨s.eng, rfl, by simp⟩
  | succ n ih =>
    obtain ⟨e, hinit, he⟩ := ih
    have hsum : BitVec.ofNat 16 ((n + 1) * c.jogSteps.toNat) =
        BitVec.ofNat 16 (n * c.jogSteps.toNat) + c.jogSteps := by
      rw [Nat.succ_mul, BitVec.ofNat_add, BitVec.ofNat_toNat, BitVec.setWidth_eq]
    rw [Function.iterate_succ_apply', he, jog_eq, hsum, ← BitVec.add_assoc]
    exact ⟨driveStaged e .driveDown (stepOperand c.jogSteps), hinit, rfl⟩

end Sys2Proof.Machine

namespace Sys2Proof.Safety

open Sys2Proof.Machine

/-! ### The statements about one application state -/

/-- Settles O44, by what SetupInit writes and the commit. -/
theorem appTickInSetupInit : Obligations.AppTickInSetupInit := by
  intro s hr hq hc
  have hh : appHandler Config.params s = setupInitHandler Config.params s := by
    simp only [appHandler, hq]
  have hsame := appCommit_eq_self (a := { s.app with initFirst := false }) hc
  rw [exec_appTick_of_handler hr hh, setupInitHandler_eq, apply_ite App.commit, hsame]
  rfl

/-- Settles O45: the tick ends with the presses taken, and the commit moves nothing. -/
theorem appTickJogs : Obligations.AppTickJogs := by
  intro s hr hq hc ha hl
  obtain ⟨commit, -, hh⟩ := appHandler_of_isSetupFloor hq
  rw [setupFloorHandler_of_no_long commit ha hl] at hh
  have hsame : (beforeCommit s).app.commit = (beforeCommit s).app := appCommit_eq_self hc
  rw [exec_appTick_of_handler hr hh, hsame]
  simp [beforeCommit, State.withApp, joggedEngine, accumulatedSteps, hl]

/-- Settles O46, by the commit of SetupFloor21 and the release test after it. -/
theorem appTickCommitsFloor21 : Obligations.AppTickCommitsFloor21 := by
  rintro s m hr hq hc ha hl rfl
  have hh : appHandler Config.params s =
      setupFloorHandler Config.params (commitFloor21 Config.params) s := by
    simp only [appHandler, hq, setupFloor21Handler]
  rw [exec_appTick_of_long (.commitFloor21 _) hr hc ha hl hh rfl, if_pos hq]
  split_ifs <;> rfl

/-- Settles O47, by the commit of SetupFloor10 and the release test after it. -/
theorem appTickCommitsFloor10 : Obligations.AppTickCommitsFloor10 := by
  rintro s m hr hq hc ha hl rfl
  have hh : appHandler Config.params s =
      setupFloorHandler Config.params (commitFloor10 Config.params) s := by
    simp only [appHandler, hq, setupFloor10Handler]
  have hne : s.app.appState ≠ .setupFloor21 := by rw [hq]; nofun
  rw [exec_appTick_of_long (.commitFloor10 _) hr hc ha hl hh rfl, if_neg hne]
  split_ifs <;> rfl

/-- Settles O48: the tick is the release test alone. -/
theorem appTickAwaitsRelease : Obligations.AppTickAwaitsRelease := by
  intro s hr hq hc ha
  obtain ⟨commit, -, hh⟩ := appHandler_of_isSetupFloor hq
  rw [setupFloorHandler_of_awaiting commit ha] at hh
  rw [exec_appTick_of_handler hr hh, releaseTest_committed hc]

/-! ### The scenario -/

/-- A short press and a tick in a jog state are one jog. -/
theorem run_press {s : State} (hr : Ready s) (hq : isSetupFloor s.app.appState)
    (hc : s.app.appNextState = s.app.appState) (ha : s.app.awaitRelease = false)
    (hb : s.btn = noFlags) :
    run [.btnPostShort, .appTick] s = .next (jog Config.params s) := by
  have hl : s.btn.btnLong = false := by simp [hb, noFlags]
  have htick := appTickJogs (s.withBtn { s.btn with btnShort := true }) hr hq hc ha hl
  rw [run_cons [.appTick] rfl, run_cons [] htick, jog_eq]
  simp [run, hb, noFlags, stepOperand]

/-- `n` short presses, each followed by a tick, are `n` jogs. -/
theorem run_presses (n : Nat) {s : State} (hr : Ready s) (hq : isSetupFloor s.app.appState)
    (hc : s.app.appNextState = s.app.appState) (ha : s.app.awaitRelease = false)
    (hb : s.btn = noFlags) :
    run (List.replicate n [Instr.btnPostShort, .appTick]).flatten s =
      .next ((jog Config.params)^[n] s) := by
  induction n generalizing s with
  | zero => rfl
  | succ n ih =>
    rw [List.replicate_succ, List.flatten_cons, run_append _ (run_press hr hq hc ha hb)]
    exact ih (s := jog Config.params s) hr hq hc ha hb

/-- A long press and a tick in SetupFloor21 store the accumulated count, and the mode input decides
whether the state is left (44 R253, R256). -/
theorem run_commit {s : State} (hr : Ready s) (hq : s.app.appState = .setupFloor21)
    (hc : s.app.appNextState = s.app.appState) (ha : s.app.awaitRelease = false)
    (hb : s.btn = noFlags) :
    ∃ t, run [.btnPostLong, .appTick] s = .next t ∧
      t.store.read Config.params.level12.key = some s.app.setupSteps ∧
      (s.pins.modeSel = false → t.app.appState = .setupFloor10) ∧
      (s.pins.modeSel = true → t.app.appState = .setupFloor21 ∧ t.app.awaitRelease = true) := by
  have htick :=
    appTickCommitsFloor21 (s.withBtn { s.btn with btnLong := true }) _ hr hq hc ha rfl rfl
  rw [run_cons [.appTick] rfl, run_cons [] htick]
  refine ⟨_, rfl, ?_, fun hm => ?_, fun hm => ?_⟩
  · simp [accumulatedSteps, hb, noFlags]
  · simp [hm, leftSetup, movedTo]
  · simp [hm, hq]

/-- Settles O55: the presses accumulate `n` jogs in an empty accumulator, and the tick of the long
press stores the accumulator. -/
theorem wizardStoresTheJogs : Obligations.WizardStoresTheJogs := by
  intro s n hr hq hc ha hz hb
  have hpresses := run_presses n hr (.inl hq) hc ha hb
  obtain ⟨e, hinit, hjogs⟩ := iterate_jog Config.params n s
  rw [hjogs, hz, zero_add] at hpresses
  rw [run_append _ hpresses]
  exact run_commit ⟨hinit.trans hr.1, hr.2⟩ hq hc ha hb

end Sys2Proof.Safety
end

section
/-! PROOFS. The events of the button driver: what each one answers, in every state. -/

namespace Sys2Proof.Machine

/-- BTN.POST.SHORT asks for neither initialisation (45 R270). -/
theorem exec_btnPostShort (s : State) :
    exec .btnPostShort s = .next (s.withBtn { s.btn with btnShort := true }) := rfl

/-- BTN.POST.LONG asks for neither initialisation (45 R270). -/
theorem exec_btnPostLong (s : State) :
    exec .btnPostLong s = .next (s.withBtn { s.btn with btnLong := true }) := rfl

/-- BTN.POST.LONGREP asks for neither initialisation (45 R270). -/
theorem exec_btnPostLongRep (s : State) :
    exec .btnPostLongRep s = .next (s.withBtn { s.btn with btnLongRep := true }) := rfl

end Sys2Proof.Machine

namespace Sys2Proof.Safety

open Sys2Proof.Machine

/-- Settles O54: the vectors are the encoder's rows, and each event replaces the button flags by
the same flags with its own set. -/
theorem buttonEventsSetTheirFlag : Obligations.ButtonEventsSetTheirFlag := by
  refine ⟨?vectorShort, ?vectorLong, ?vectorLongRep, fun s => ⟨?short, ?long, ?longRep⟩⟩
  case vectorShort | vectorLong | vectorLongRep => rfl
  case short => exact exec_btnPostShort s
  case long => exact exec_btnPostLong s
  case longRep => exact exec_btnPostLongRep s

end Sys2Proof.Safety
end

section
/-! PROOFS. The entry of a fault state: the operation that enters it, its one cause, and the
registers it writes. -/

namespace Sys2Proof.Machine

open Sys2Proof.Safety

/-- A tick ends in Fault only from Fault or from the reserved code (60 R287). -/
theorem motionAfter_eq_fault_iff {st : MotionState} {c : MotionCommand} {reached stable : Bool} :
    motionAfter st c reached stable = .fault ↔ st = .fault ∨ st = .reserved7 := by
  cases st with
  | idle | arrived | rampStart | rampUp | rampStable =>
    simp only [motionAfter]
    split_ifs <;> simp
  | fault | faultInvalidDirection | reserved7 => simp [motionAfter]

/-- A tick ends in FaultInvalidDirection only from there or from RampStart without a drive
(60 R286). -/
theorem motionAfter_eq_faultInvalidDirection_iff {st : MotionState} {c : MotionCommand}
    {reached stable : Bool} :
    motionAfter st c reached stable = .faultInvalidDirection ↔
      st = .faultInvalidDirection ∨ st = .rampStart ∧ c ≠ .driveUp ∧ c ≠ .driveDown := by
  cases st with
  | rampStart => cases c <;> simp [motionAfter]
  | idle | arrived | rampUp | rampStable =>
    simp only [motionAfter]
    split_ifs <;> simp
  | fault | faultInvalidDirection | reserved7 => simp [motionAfter]

/-- An operation that moves the motion state to anything but Idle is the tick (41 R182). -/
theorem eq_engTick_of_state_ne {i : Instr} {s t : State} (h : exec i s = .next t)
    (hmoved : t.eng.state ≠ s.eng.state) (hidle : t.eng.state ≠ .idle) : i = .engTick := by
  by_contra htick
  by_cases hinit : i = .engInit
  · subst hinit
    cases h
    exact hidle rfl
  · exact hmoved (exec_motion_frame htick hinit h).1

end Sys2Proof.Machine

namespace Sys2Proof.Safety

open Sys2Proof.Machine

/-- Settles O29: only a tick moves the motion state into a fault, `motionAfter` names the cause, and
the tick's statement for that cause names the registers written. -/
theorem faultEntryIsPrecise : Obligations.FaultEntryIsPrecise := by
  intro i s t hc h hnotFault hnotInvalid hfault
  have htick : i = .engTick := by
    refine eq_engTick_of_state_ne h ?moved ?idle
    case moved =>
      intro hsame
      rw [hsame] at hfault
      exact hfault.elim hnotFault hnotInvalid
    case idle =>
      intro hidle
      rw [hidle] at hfault
      exact hfault.elim nofun nofun
  subst htick
  obtain ⟨hi, htickEng⟩ := engineOp_eq_next.mp h
  have hstate := Engine.tick_state hc
  rw [← State.withEng_eng s s.eng.tick, htickEng] at hstate
  refine ⟨rfl, ?_⟩
  rcases hfault with hf | hf
  · have hreserved : s.eng.state = .reserved7 :=
      (motionAfter_eq_fault_iff.mp (hstate.symm.trans hf)).resolve_left hnotFault
    refine ⟨fun _ => hreserved, fun hx => (nomatch hf.symm.trans hx), ?_⟩
    rw [hf]
    exact Host.Outcome.next.inj (h.symm.trans (tickInFaultOrReservedCode.2 s hi hreserved))
  · have hcause :
        s.eng.state = .rampStart ∧ seenCmd s.eng ≠ .driveUp ∧ seenCmd s.eng ≠ .driveDown :=
      (motionAfter_eq_faultInvalidDirection_iff.mp (hstate.symm.trans hf)).resolve_left hnotInvalid
    refine ⟨fun hx => (nomatch hf.symm.trans hx), fun _ => hcause, ?_⟩
    obtain ⟨hramp, hup, hdown⟩ := hcause
    rw [hf]
    exact Host.Outcome.next.inj (h.symm.trans (tickInRampStartInvalid s hi hramp hup hdown))

end Sys2Proof.Safety
end

section
/-! PROOFS. The power-on reset and the initialised bits: what a power-on step answers, what is
refused before initialisation, and that an initialised machine refuses nothing and stays
initialised. -/

namespace Sys2Proof.Machine

open Sys2Proof.Safety

/-! ### The power-on reset -/

/-- A power-on reset at the front of the port is what the step runs (70 R330). -/
theorem step_of_powerOn {s : State} {rest : List PortItem} (hport : s.port = .powerOn :: rest) :
    step s = .next (s.releaseRdata.withPort rest).powerOnReset := by
  simp only [step, State.fetch, State.releaseRdata_port, hport]

/-! ### Before initialisation -/

/-- ENG.GETSTATE is refused before ENG.INIT (70 R332). -/
theorem execEngGetState_of_not_init {s : State} (h : s.eng.engInit = false) :
    execEngGetState s = .refused .engineNotInitialised := by
  simp [execEngGetState, h]

/-- APP.TICK is refused while either machine is not initialised (70 R332). -/
theorem execAppTick_of_not_ready {s : State} (h : ¬ Ready s) :
    ∃ r, execAppTick s = .refused r := by
  unfold execAppTick
  split_ifs with heng happ
  · exact absurd ⟨heng, happ⟩ h
  · exact ⟨_, rfl⟩
  · exact ⟨_, rfl⟩

/-- PULSE changes nothing before ENG.INIT: the gate is closed (42 R200, 70 R332). -/
theorem exec_pulse_of_not_init {s : State} (h : s.eng.engInit = false) :
    exec .pulse s = .next s := by
  have hgate : s.eng.pulseGate = false := Engine.pulseGate_eq_false (by simp [h])
  rw [exec_pulse, Engine.pulse_of_gated _ hgate]
  rfl

/-! ### The engine's initialised bit -/

/-- No operation that rewrites the engine clears its initialised bit (70 R332). -/
theorem WritesEngine.keeps_engInit {i : Instr} {f : Engine → Engine} (hw : WritesEngine i f)
    {e : Engine} (h : e.engInit = true) : (f e).engInit = true := by
  cases hw with
  | init => rfl
  | request c n => simpa only [Engine.request_eq] using h
  | tick =>
    obtain ⟨-, -, -, -, -, -, hinit⟩ := e.tick_frame
    exact hinit.trans h
  | pulse => rw [Engine.pulse_frame]; exact h
  | shutdown | reserved _ _ | fastStop | setRampStart _ | setRampEnd _ => exact h

/-- The nested commands of APP.TICK leave the engine's initialised bit (43 R218). -/
theorem Commanded.engInit_eq {e e' : Engine} (h : Commanded e e') : e'.engInit = e.engInit := by
  cases h <;> rfl

/-! ### The application's initialised bit -/

@[simp] theorem applyFloorTable_appInit (s : State) :
    (applyFloorTable s).app.appInit = s.app.appInit := by
  unfold applyFloorTable
  split <;> rfl

@[simp] theorem releaseTest_appInit (s : State) :
    (releaseTest s).app.appInit = s.app.appInit := by
  simp only [releaseTest]
  split_ifs <;> rfl

@[simp] theorem initHandler_appInit (c : Config) (s : State) :
    (initHandler c s).app.appInit = s.app.appInit := by
  rw [initHandler_eq]
  dsimp only
  split <;> rfl

@[simp] theorem setupInitHandler_appInit (c : Config) (s : State) :
    (setupInitHandler c s).app.appInit = s.app.appInit := by
  rw [setupInitHandler_eq]
  dsimp only
  split <;> rfl

@[simp] theorem idleHandler_appInit (s : State) :
    (idleHandler s).app.appInit = s.app.appInit := by
  rw [idleHandler_eq, State.withBtn_app]
  split
  · exact applyFloorTable_appInit s
  · rfl

@[simp] theorem drivingHandler_appInit (limit : Bool) (s : State) :
    (drivingHandler limit s).app.appInit = s.app.appInit := by
  rw [drivingHandler_app]
  split <;> rfl

/-- A jog state leaves the initialised bit, as its commit does. -/
theorem setupFloorHandler_appInit {commit : State → State}
    (hcommit : ∀ u, (commit u).app.appInit = u.app.appInit) (s : State) :
    (setupFloorHandler Config.params commit s).app.appInit = s.app.appInit := by
  have hlast (u : State) :
      (if u.app.awaitRelease then releaseTest u else u).app.appInit = u.app.appInit := by
    split <;> simp
  have hbefore : (beforeCommit s).app.appInit = s.app.appInit := rfl
  simp only [setupFloorHandler, hlast, takePresses_eq]
  split_ifs
  · rfl
  · exact (hcommit _).trans hbefore
  · exact hbefore

/-- No handler of APP.TICK, and not the commit, writes the application's initialised bit. -/
theorem appTick_appInit (s : State) : (appTick Config.params s).app.appInit = s.app.appInit := by
  change (appHandler Config.params s).app.appInit = _
  unfold appHandler
  cases s.app.appState with
  | init => exact initHandler_appInit _ s
  | idle => exact idleHandler_appInit s
  | drivingUp => exact drivingHandler_appInit _ s
  | drivingDown => exact drivingHandler_appInit _ s
  | setupInit => exact setupInitHandler_appInit _ s
  | setupFloor21 => exact setupFloorHandler_appInit (commit := commitFloor21 _) (fun _ => rfl) s
  | setupFloor10 => exact setupFloorHandler_appInit (commit := commitFloor10 _) (fun _ => rfl) s
  | reserved7 => rfl

/-! ### Taking from the port -/

/-- Taking from the port writes neither the engine nor the application (20 R90). -/
theorem State.fetch_frame (s : State) : s.fetch.2.eng = s.eng ∧ s.fetch.2.app = s.app := by
  unfold State.fetch
  split <;> exact ⟨rfl, rfl⟩

end Sys2Proof.Machine

namespace Sys2Proof.Safety

open Sys2Proof.Machine

/-! ### An initialised machine -/

theorem Ready.appTick {s : State} (hr : Ready s) : Ready (appTick Config.params s) :=
  ⟨(Commanded.appTick s).engInit_eq.trans hr.1, (appTick_appInit s).trans hr.2⟩

/-- An initialised machine refuses no operation and no event, and stays initialised (70 R332). -/
theorem Ready.exec_next {s : State} (hr : Ready s) (i : Instr) :
    ∃ t, exec i s = .next t ∧ Ready t := by
  obtain ⟨heng, happ⟩ := hr
  have engine {f : Engine → Engine} (hw : WritesEngine i f) : ∃ t, exec i s = .next t ∧ Ready t :=
    ⟨_, hw.exec_eq_next heng, hw.keeps_engInit heng, happ⟩
  cases i with
  | engInit => exact engine .init
  | engShutdown => exact engine .shutdown
  | engRequest cmd n =>
    cases cmd with
    | command c => exact engine (.request c n)
    | reserved code => exact engine (.reserved code n)
  | engFastStop => exact engine .fastStop
  | engTick => exact engine .tick
  | engGetState => exact ⟨_, execEngGetState_eq_next.mpr ⟨heng, rfl⟩, heng, happ⟩
  | engSetRampStart p => exact engine (.setRampStart p)
  | engSetRampEnd p => exact engine (.setRampEnd p)
  | appInit => exact ⟨_, rfl, heng, rfl⟩
  | appTick => exact ⟨_, execAppTick_of_ready ⟨heng, happ⟩, Ready.appTick ⟨heng, happ⟩⟩
  | pulse => exact engine .pulse
  | btnPostShort => exact ⟨_, exec_btnPostShort s, heng, happ⟩
  | btnPostLong => exact ⟨_, exec_btnPostLong s, heng, happ⟩
  | btnPostLongRep => exact ⟨_, exec_btnPostLongRep s, heng, happ⟩

theorem Ready.fetch {s : State} (hr : Ready s) : Ready s.releaseRdata.fetch.2 := by
  obtain ⟨heng, happ⟩ := s.releaseRdata.fetch_frame
  unfold Ready
  rwa [heng, happ]

/-- A step of an initialised machine answers a next state: only an operation could be refused, and
it runs with the initialised bits as they were (70 R332). -/
theorem Ready.step_next {s : State} (hr : Ready s) : ∃ t, step s = .next t := by
  have hfetch := hr.fetch
  unfold step
  generalize s.releaseRdata.fetch = taken at hfetch ⊢
  obtain ⟨fetched, u⟩ := taken
  cases fetched with
  | instr i =>
    obtain ⟨t, ht, -⟩ := Ready.exec_next hfetch i
    exact ⟨t, ht⟩
  | powerOn => exact ⟨_, rfl⟩
  | nothing why => exact ⟨_, rfl⟩
  | idle => exact ⟨_, rfl⟩

/-! ### The statements -/

/-- Settles O56, by what each operation answers on an initialised machine, and by what a step takes
from the port. -/
theorem nothingRefusedOnceReady : Obligations.NothingRefusedOnceReady :=
  ⟨fun i _ hr => hr.exec_next i, fun _ hr => hr.step_next⟩

/-- Settles O8: the registers are those of the reset state, whose values O9 gives. -/
theorem powerOnForcesSafeOutputs : Obligations.PowerOnForcesSafeOutputs := by
  intro s rest hport
  obtain ⟨hpulse, hdrv, hsleep, hdrvReset, hstepOut, heng, hled, happ, hbtn⟩ :=
    resetGivesSpecValues
  exact ⟨_, step_of_powerOn hport, hpulse, hdrv, hsleep, hdrvReset, hstepOut, heng, hled, happ,
    hbtn, rfl, rfl⟩

/-- Settles O10: the guard of each operation is closed by the clear bit, and the operations accepted
in every state have none. -/
theorem operationsBeforeInitialisation : Obligations.OperationsBeforeInitialisation := by
  refine ⟨fun s c n p heng => ?_, fun s happ => ?_, fun s b n => ?_⟩
  · have refused (f : Engine → Engine) : ∃ r, engineOp f s = .refused r :=
      ⟨_, engineOp_of_not_init f heng⟩
    exact ⟨refused _, refused fun e => e.request c n, refused _, refused _,
      ⟨_, execEngGetState_of_not_init heng⟩, refused fun e => { e with cfgStart := p },
      refused fun e => { e with cfgEnd := p },
      execAppTick_of_not_ready fun hr => (Bool.eq_false_iff.mp heng) hr.1,
      exec_pulse_of_not_init heng⟩
  · exact execAppTick_of_not_ready fun hr => (Bool.eq_false_iff.mp happ) hr.2
  · exact ⟨⟨_, rfl⟩, ⟨_, rfl⟩, ⟨_, exec_btnPostShort s⟩, ⟨_, exec_btnPostLong s⟩,
      ⟨_, exec_btnPostLongRep s⟩, rfl⟩

end Sys2Proof.Safety
end

section
/-! PROOFS. The decoder reads back what the encoder assembled. -/

namespace Sys2Proof

open Sys2Proof.Safety

/-- An assembled word has `rsv` = 0, so it decodes to what its fields stand for (30 R111). -/
theorem decodeCommand_commandWord {op : BitVec 4} {cmd : BitVec 3} {val : BitVec 32} {i : Instr}
    (hread : FieldsRead (commandWord op cmd val) i) :
    decodeCommand (commandWord op cmd val) = .ok i :=
  decodeCommand_eq_ok.mpr ⟨rsvField_commandWord op cmd val, hread⟩

/-- Format R reads its command field and its count back from the assembled word; a command field
that is not well formed would share its bits with a command (30 R113). -/
theorem fieldsRead_engRequest {f : CommandField} (hf : f.wellFormed = true) (n : Steps) :
    FieldsRead (commandWord 0x3 f.bits n) (.engRequest f n) := by
  have hread := FieldsRead.engRequest (opField_commandWord 0x3 f.bits n)
  rwa [cmdField_commandWord, valField_commandWord, CommandField.ofBits_bits f hf] at hread

/-- ENG.SETRAMPSTART reads its period back from the assembled word (30 R118). -/
theorem fieldsRead_engSetRampStart (p : Period) :
    FieldsRead (commandWord 0x7 0 (p.setWidth 32)) (.engSetRampStart p) := by
  have hread := FieldsRead.engSetRampStart (opField_commandWord 0x7 0 (p.setWidth 32))
  rwa [periodField_commandWord] at hread

/-- ENG.SETRAMPEND reads its period back from the assembled word (30 R118). -/
theorem fieldsRead_engSetRampEnd (p : Period) :
    FieldsRead (commandWord 0x8 0 (p.setWidth 32)) (.engSetRampEnd p) := by
  have hread := FieldsRead.engSetRampEnd (opField_commandWord 0x8 0 (p.setWidth 32))
  rwa [periodField_commandWord] at hread

end Sys2Proof

namespace Sys2Proof.Safety

/-- Settles O2: the fields of an assembled word stand for the instruction that was encoded; an
event's vector holds one event. -/
theorem decodeEncodeRoundTrip : Obligations.DecodeEncodeRoundTrip := by
  intro i hwf
  cases i with
  | engInit => exact decodeCommand_commandWord (.engInit (opField_commandWord _ _ _))
  | engShutdown => exact decodeCommand_commandWord (.engShutdown (opField_commandWord _ _ _))
  | engRequest cmd steps => exact decodeCommand_commandWord (fieldsRead_engRequest hwf steps)
  | engFastStop => exact decodeCommand_commandWord (.engFastStop (opField_commandWord _ _ _))
  | engTick => exact decodeCommand_commandWord (.engTick (opField_commandWord _ _ _))
  | engGetState => exact decodeCommand_commandWord (.engGetState (opField_commandWord _ _ _))
  | engSetRampStart period => exact decodeCommand_commandWord (fieldsRead_engSetRampStart period)
  | engSetRampEnd period => exact decodeCommand_commandWord (fieldsRead_engSetRampEnd period)
  | appInit => exact decodeCommand_commandWord (.appInit (opField_commandWord _ _ _))
  | appTick => exact decodeCommand_commandWord (.appTick (opField_commandWord _ _ _))
  | pulse => rfl
  | btnPostShort => rfl
  | btnPostLong => rfl
  | btnPostLongRep => rfl

end Sys2Proof.Safety
end
